-- ==== Sys2Proof/Word.lean ====
section
/-! DEFINITION. The unit of the wire and of every field: one byte (R9, R90). -/

namespace Sys2Proof

/-- A byte, an unsigned integer 0 to 255 (R9). Its addition wraps modulo 256 (R134, R141 a). -/
abbrev Byte := BitVec 8

end Sys2Proof
end

