-- ==== Sys2Proof/Config.lean ====
section
/-! DEFINITION. What is fixed for a machine: the constants of R6 and R17, the parameters of R7, the names and
directory entries they are made of (R32, R104), and the storage collaborator's open answers (R72, R75). -/

namespace Sys2Proof

/-- An image name: 12 uninterpreted bytes (R32, decision D26). -/
abbrev Name := Vector Byte 12

/-- A directory entry of `DirList()` (R75, R104): 12 name bytes, then 4 bytes that the storage
collaborator supplies and nothing interprets. -/
structure DirEntry where
  name : Name
  attr : Vector Byte 4
  deriving DecidableEq, Repr, Inhabited

/-- One answer of the environment to a `MemWrite` or `Create` that reached the medium (R72, R74).
`fails`: the draw `e`.
`left`: what a failed write leaves in the addressed sector ("unspecified (any value)", R72).
`relisting`: what `DirList()` answers after a successful `Create` (R75: the order of the list and
bytes 12 to 15 of an entry are the collaborator's). -/
structure Draw where
  fails     : Bool
  left      : Vector Byte 128
  relisting : List DirEntry
  deriving DecidableEq, Repr, Inhabited

/-- What R7 fixes for one drive unit: its id, and the two defaults of decision D29. -/
structure UnitParams where
  id          : Byte
  defaultName : Name
  defaultWp   : Bool
  deriving DecidableEq, Repr

/-- The parameters of R7. `N_UNITS` is the length of `units`; unit index `u` is a position in it. -/
structure Params where
  units          : List UnitParams
  stMalformed    : Byte
  timeoutEnabled : Bool
  newImageFill   : Byte
  imgDir         : Byte
  imgMount       : Byte
  imgCreate      : Byte
  imgProtect     : Byte
  imgDefaults    : Byte
  deriving DecidableEq, Repr

namespace Params

/-- `N_UNITS` (R7). -/
def nUnits (p : Params) : Nat := p.units.length

/-- `UNIT_IDS` (R7). -/
def unitIds (p : Params) : List Byte := p.units.map (·.id)

/-- The five sub-operation codes in the order of R106. -/
def imgCodes (p : Params) : List Byte :=
  [p.imgDir, p.imgMount, p.imgCreate, p.imgProtect, p.imgDefaults]

/-- The constraint column of R7. -/
def wf (p : Params) : Bool :=
  (p.nUnits == 2 || p.nUnits == 4)
    && decide p.unitIds.Nodup
    && p.unitIds.head? == some 0x31
    && p.stMalformed != 0x00
    && decide p.imgCodes.Nodup

end Params

namespace Config

/-! ## Constants the source fixes (R6) -/

@[simp] abbrev SECTOR_BYTES : Nat := 128
@[simp] abbrev SECTORS_PER_TRACK : Nat := 64
@[simp] abbrev TRACKS : Nat := 40
@[simp] abbrev DISK_SECTORS : Nat := 2560
@[simp] abbrev IMAGE_BYTES : Nat := 327680
@[simp] abbrev DIR_ENTRIES_PER_MSG : Nat := 8
@[simp] abbrev DIR_ENTRY_BYTES : Nat := 16
@[simp] abbrev DIR_NAME_BYTES : Nat := 12

/-! ## Buffer capacities (R8, decision D32) -/

@[simp] abbrev TEXT_CAP : Nat := 255
@[simp] abbrev RTXT_CAP : Nat := 129

/-! ## Byte values (R17) -/

@[simp] abbrev SOH : Byte := 0x01
@[simp] abbrev STX : Byte := 0x02
@[simp] abbrev ETX : Byte := 0x03
@[simp] abbrev EOT : Byte := 0x04
@[simp] abbrev ENQ : Byte := 0x05
@[simp] abbrev ACK : Byte := 0x06
@[simp] abbrev NAK : Byte := 0x15
@[simp] abbrev SEL : Byte := 0x31
@[simp] abbrev FMT_MS : Byte := 0x00
@[simp] abbrev FMT_SM : Byte := 0x01
@[simp] abbrev FN_RESET : Byte := 0x0D
@[simp] abbrev FN_SELECT : Byte := 0x0E
@[simp] abbrev FN_READ : Byte := 0x77
@[simp] abbrev FN_WRITE : Byte := 0x78
@[simp] abbrev FN_FLUSH : Byte := 0x79
@[simp] abbrev FN_IMG : Byte := 0xE0
@[simp] abbrev ST_OK : Byte := 0x00
@[simp] abbrev ST_READ_ERR : Byte := 0xFA
@[simp] abbrev ST_WRITE_ERR : Byte := 0xFB
@[simp] abbrev ST_SELECT_ERR : Byte := 0xFC
@[simp] abbrev ST_DISK_WP : Byte := 0xFD
@[simp] abbrev ST_FILE_WP : Byte := 0xFE

/-! ## Free values -/

/-- The environment's `k`-th answer once the answers listed in `State.env` are used up. FREE VALUE: the
medium error of R72, the bytes a failed write leaves and the order of a new listing have no law. -/
opaque freeDraw : Nat → Draw

/-! ## The parameters of the reset state -/

/-- The parameters that `State.reset` carries. DESIGN CHOICE: R7 leaves `N_UNITS`, the second id,
`ST_MALFORMED`, `TIMEOUT_ENABLED`, the defaults and `NEW_IMAGE_FILL` open; these are the values the
spec's own test vectors use (95_test_vectors.md section 0). The names are 'DISK0.IMG' and
'DISK1.IMG', padded with three spaces. Every meaning reads the parameters from the state, so a
statement over all states holds for all parameters. -/
def params : Params where
  units :=
    [⟨0x31, #v[0x44, 0x49, 0x53, 0x4B, 0x30, 0x2E, 0x49, 0x4D, 0x47, 0x20, 0x20, 0x20], false⟩,
     ⟨0x33, #v[0x44, 0x49, 0x53, 0x4B, 0x31, 0x2E, 0x49, 0x4D, 0x47, 0x20, 0x20, 0x20], false⟩]
  stMalformed := 0xFF
  timeoutEnabled := false
  newImageFill := 0xE5
  imgDir := 0x44
  imgMount := 0x4D
  imgCreate := 0x4E
  imgProtect := 0x50
  imgDefaults := 0x52

end Config
end Sys2Proof
end

