-- ==== Sys2Proof/Machine/Codec.lean ====
section
/-! DEFINITION. The pure frame codec: checksums (R131 to R134) and encoders (R137 to R139). -/

namespace Sys2Proof.Machine

/-- `Sum8(s) = sum(s) mod 256` (R14): the exact sum, narrowed at the end. -/
def sum8 (l : List Byte) : Byte := BitVec.ofNat 8 (l.map BitVec.toNat).sum

/-- `HeaderCks` (R131): the five bytes after the start-of-header, which is not summed. -/
def headerCks (fmt did sid fnc siz : Byte) : Byte := sum8 [fmt, did, sid, fnc, siz]

/-- `TextCks` (R132): the body bytes only. -/
def textCks (body : List Byte) : Byte := sum8 body

/-- The running checksum's step `cks <- (cks + b) mod 256` (R134). -/
def accumulate (cks b : Byte) : Byte := cks + b

/-- `encode_select` (R137). -/
def encodeSelect (did sid : Byte) : List Byte := [Config.SEL, did, sid]

/-- `encode_header` (R138). -/
def encodeHeader (fmt did sid fnc siz : Byte) : List Byte :=
  [Config.SOH, fmt, did, sid, fnc, siz, headerCks fmt did sid fnc siz]

/-- `encode_text` (R139). -/
def encodeText (body : List Byte) : List Byte :=
  [Config.STX] ++ body ++ [Config.ETX, textCks body]

end Sys2Proof.Machine
end

