-- ==== Sys2Proof/Syntax.lean ====
section
/-! DEFINITION. The instructions: one constructor per row of spec/opcode_table.json (R107). -/

namespace Sys2Proof

/-- The 23 rows of the opcode table. The control characters and the frames are what the wire carries; the
function codes are matched on header byte 4 (`f_fnc`) and the sub-operations on `txt[0]`, and take their
operands from the frame registers and the request text (R200), so their constructors carry none. -/
inductive Instr where
  /-- `SOH` 0x01, a received byte (R91, R151, R155, R169). -/
  | soh
  /-- `STX` 0x02 (R91, R162). -/
  | stx
  /-- `ETX` 0x03 (R91, R164). -/
  | etx
  /-- `EOT` 0x04 (R91, R166). -/
  | eot
  /-- `ENQ` 0x05 (R91, R154). -/
  | enq
  /-- `ACK` 0x06 (R91, R167, R168). -/
  | ack
  /-- `NAK` 0x15 (R91, R285). -/
  | nak
  /-- `SEL` 0x31 (R91, R151, R169). -/
  | sel
  /-- `SELF`, the select frame with its enquiry (R92). -/
  | selF (did sid : Byte)
  /-- `HDR`, a request header (R93), with the checksum byte as it is on the wire. -/
  | hdr (did sid fnc siz cks : Byte)
  /-- `RHDR`, a reply header (R93, R102, R166). -/
  | rhdr (did sid fnc siz cks : Byte)
  /-- `TXT`, a text frame (R94). -/
  | txt (body : List Byte) (cks : Byte)
  /-- `RESET`, function 0x0D (R203). -/
  | reset
  /-- `SELECT`, function 0x0E (R204). -/
  | select
  /-- `READ`, function 0x77 (R205). -/
  | read
  /-- `WRITE`, function 0x78 (R206). -/
  | write
  /-- `FLUSH`, function 0x79 (R207). -/
  | flush
  /-- `IMG`, function 0xE0 (R230). -/
  | img
  /-- `IMG.DIR` (R231). -/
  | imgDir
  /-- `IMG.MOUNT` (R232). -/
  | imgMount
  /-- `IMG.CREATE` (R233). -/
  | imgCreate
  /-- `IMG.PROTECT` (R234). -/
  | imgProtect
  /-- `IMG.DEFAULTS` (R235). -/
  | imgDefaults
  deriving DecidableEq, Repr

/-- Where an instruction's code is matched: on a received byte, on the bytes of a frame, on header byte 4, or on
the first text byte (the `format` column of the opcode table, R107). -/
inductive Level where
  | ctl
  | frame
  | fnc
  | img
  deriving DecidableEq, Repr

/-- The level of each row. -/
def Instr.level : Instr → Level
  | .soh | .stx | .etx | .eot | .enq | .ack | .nak | .sel => .ctl
  | .selF .. | .hdr .. | .rhdr .. | .txt .. => .frame
  | .reset | .select | .read | .write | .flush | .img => .fnc
  | .imgDir | .imgMount | .imgCreate | .imgProtect | .imgDefaults => .img

/-- The text size that a header announces for a text frame (R94); no other row needs one. -/
def Instr.textSize : Instr → Nat
  | .txt body _ => body.length
  | _ => 0

end Sys2Proof
end

