-- ==== Sys2Proof/WellFormed.lean ====
section
/-! DEFINITION. The static checks on instructions: a frame's checksum byte and its size. -/

namespace Sys2Proof.Instr

open Sys2Proof.Machine

/-- The last byte of a header is the sum of the five before it (R93, R131), with format 0x00 for a request and
0x01 for a reply (R95). -/
def headerCksOk (fmt did sid fnc siz cks : Byte) : Bool := cks == headerCks fmt did sid fnc siz

/-- A text has 1 to 255 body bytes (R94). -/
def textSizeOk (body : List Byte) : Bool := 1 ≤ body.length && body.length ≤ 255

/-- The last byte of a text is the sum of its body (R94, R132). -/
def textCksOk (body : List Byte) (cks : Byte) : Bool := cks == textCks body

/-- A reply announces 1 to 129 bytes (R201). -/
def replySizeOk (siz : Byte) : Bool := 1 ≤ siz.toNat && siz.toNat ≤ 129

/-- The well-formed instructions. A frame that fails a checksum check is still decoded (the opcode table's mask
leaves the checksum out) and still has its meaning, a checksum failure (R252, R253). -/
def wf : Instr → Bool
  | .hdr did sid fnc siz cks => headerCksOk Config.FMT_MS did sid fnc siz cks
  | .rhdr did sid fnc siz cks => headerCksOk Config.FMT_SM did sid fnc siz cks && replySizeOk siz
  | .txt body cks => textSizeOk body && textCksOk body cks
  | .soh | .stx | .etx | .eot | .enq | .ack | .nak | .sel | .selF .. => true
  | .reset | .select | .read | .write | .flush | .img => true
  | .imgDir | .imgMount | .imgCreate | .imgProtect | .imgDefaults => true

end Sys2Proof.Instr
end

