-- ==== Sys2Proof/Decode.lean ====
section
/-! DEFINITION. The decoder, total on any bytes, and the encoder, both from the tables of 30_encoding.md. -/

namespace Sys2Proof

/-- Why bytes are no instruction. -/
inductive DecodeError where
  /-- There is no byte. -/
  | empty
  /-- The frame is not complete. -/
  | truncated
  /-- The byte is none of the eight control characters (R91). -/
  | notControl (b : Byte)
  /-- The byte starts no frame (R108). -/
  | notFrameStart (b : Byte)
  /-- A select frame is not closed by `ENQ` (R92). -/
  | badEnquiry (b : Byte)
  /-- A header's format byte is neither 0x00 nor 0x01 (R95). -/
  | badFormat (b : Byte)
  /-- A text frame where the header announced none (R98). -/
  | noTextAnnounced
  /-- The byte after the body is not `ETX` (R94). -/
  | badEndOfText (b : Byte)
  /-- None of the six function codes (R110). -/
  | unknownFunction (b : Byte)
  /-- None of the five sub-operation codes (R111). -/
  | unknownSubOperation (b : Byte)
  deriving DecidableEq, Repr

/-- The control characters (R91). -/
def ctlRows : List (Byte × Instr) :=
  [(Config.SOH, .soh), (Config.STX, .stx), (Config.ETX, .etx), (Config.EOT, .eot),
   (Config.ENQ, .enq), (Config.ACK, .ack), (Config.NAK, .nak), (Config.SEL, .sel)]

/-- The function-code map (R105). -/
def fncRows : List (Byte × Instr) :=
  [(Config.FN_RESET, .reset), (Config.FN_SELECT, .select), (Config.FN_READ, .read),
   (Config.FN_WRITE, .write), (Config.FN_FLUSH, .flush), (Config.FN_IMG, .img)]

/-- The sub-operation map of function 0xE0 (R106), whose codes are parameters (R7). -/
def imgRows (p : Params) : List (Byte × Instr) :=
  [(p.imgDir, .imgDir), (p.imgMount, .imgMount), (p.imgCreate, .imgCreate),
   (p.imgProtect, .imgProtect), (p.imgDefaults, .imgDefaults)]

/-- A received byte as a control character. -/
def decodeCtl (b : Byte) : Except DecodeError Instr :=
  match ctlRows.lookup b with
  | some i => .ok i
  | none => .error (.notControl b)

/-- Header byte 4 as a function code. -/
def decodeFnc (b : Byte) : Except DecodeError Instr :=
  match fncRows.lookup b with
  | some i => .ok i
  | none => .error (.unknownFunction b)

/-- The first text byte as a sub-operation of function 0xE0. -/
def decodeImg (p : Params) (b : Byte) : Except DecodeError Instr :=
  match (imgRows p).lookup b with
  | some i => .ok i
  | none => .error (.unknownSubOperation b)

/-- The three bytes after 0x31 (R92), and what follows them. -/
def decodeSelect : List Byte → Except DecodeError (Instr × List Byte)
  | did :: sid :: enq :: rest =>
    if enq = Config.ENQ then .ok (.selF did sid, rest) else .error (.badEnquiry enq)
  | _ => .error .truncated

/-- The six bytes after 0x01 (R93): a request header for format 0x00, a reply header for 0x01 (R95). -/
def decodeHeader : List Byte → Except DecodeError (Instr × List Byte)
  | fmt :: did :: sid :: fnc :: siz :: cks :: rest =>
    if fmt = Config.FMT_MS then .ok (.hdr did sid fnc siz cks, rest)
    else if fmt = Config.FMT_SM then .ok (.rhdr did sid fnc siz cks, rest)
    else .error (.badFormat fmt)
  | _ => .error .truncated

/-- The bytes after 0x02 (R94). The body's length is the announced size, never found by scanning (R108). -/
def decodeText (size : Nat) (bytes : List Byte) : Except DecodeError (Instr × List Byte) :=
  if size = 0 then .error .noTextAnnounced
  else
    match bytes.drop size with
    | etx :: cks :: rest =>
      if etx = Config.ETX then .ok (.txt (bytes.take size) cks, rest) else .error (.badEndOfText etx)
    | _ => .error .truncated

/-- A whole frame, with the text size its header announced (R108). -/
def decodeFrame (size : Nat) : List Byte → Except DecodeError (Instr × List Byte)
  | [] => .error .empty
  | b :: rest =>
    if b = Config.SEL then decodeSelect rest
    else if b = Config.SOH then decodeHeader rest
    else if b = Config.STX then decodeText size rest
    else .error (.notFrameStart b)

/-- The decoder: the instruction at a level, and the bytes left over. -/
def decode (p : Params) (lvl : Level) (size : Nat) (bytes : List Byte) :
    Except DecodeError (Instr × List Byte) :=
  match lvl, bytes with
  | .ctl, [] => .error .empty
  | .ctl, b :: rest => (decodeCtl b).map (·, rest)
  | .frame, bytes => decodeFrame size bytes
  | .fnc, [] => .error .empty
  | .fnc, b :: rest => (decodeFnc b).map (·, rest)
  | .img, [] => .error .empty
  | .img, b :: rest => (decodeImg p b).map (·, rest)

/-- The bytes of an instruction, from the same tables (R91 to R94, R105, R106). -/
def encode (p : Params) : Instr → List Byte
  | .soh => [Config.SOH]
  | .stx => [Config.STX]
  | .etx => [Config.ETX]
  | .eot => [Config.EOT]
  | .enq => [Config.ENQ]
  | .ack => [Config.ACK]
  | .nak => [Config.NAK]
  | .sel => [Config.SEL]
  | .selF did sid => [Config.SEL, did, sid, Config.ENQ]
  | .hdr did sid fnc siz cks => [Config.SOH, Config.FMT_MS, did, sid, fnc, siz, cks]
  | .rhdr did sid fnc siz cks => [Config.SOH, Config.FMT_SM, did, sid, fnc, siz, cks]
  | .txt body cks => [Config.STX] ++ body ++ [Config.ETX, cks]
  | .reset => [Config.FN_RESET]
  | .select => [Config.FN_SELECT]
  | .read => [Config.FN_READ]
  | .write => [Config.FN_WRITE]
  | .flush => [Config.FN_FLUSH]
  | .img => [Config.FN_IMG]
  | .imgDir => [p.imgDir]
  | .imgMount => [p.imgMount]
  | .imgCreate => [p.imgCreate]
  | .imgProtect => [p.imgProtect]
  | .imgDefaults => [p.imgDefaults]

/-- The `n` bytes of a table word: the opcode table reads a frame as one number, byte 0 first and most
significant (its rows SELF, HDR, RHDR; R92). -/
def wordBytes : Nat → Nat → List Byte
  | 0, _ => []
  | n + 1, w => BitVec.ofNat 8 (w / 256 ^ n) :: wordBytes n w

/-- One byte at whichever of the three one-byte levels knows it. With the default sub-operation codes
the nineteen one-byte codes of the table are distinct. -/
def decodeCode (p : Params) (b : Byte) : Option Instr :=
  match ctlRows.lookup b, fncRows.lookup b, (imgRows p).lookup b with
  | some i, _, _ => some i
  | none, some i, _ => some i
  | none, none, r => r

/-- What the decoder reads from a row's word (the host's question). A word of one byte is a code;
a longer one is a frame, whose text size, if it is a text, is its length less three (R94). -/
def decodeTableWord (nbits w : Nat) : Option Instr :=
  match (nbits + 7) / 8 with
  | 0 => none
  | 1 => decodeCode Config.params (BitVec.ofNat 8 w)
  | n =>
    match decode Config.params .frame (n - 3) (wordBytes n w) with
    | .ok (i, []) => some i
    | _ => none

end Sys2Proof
end

