-- ==== Sys2Proof/Machine/State.lean ====
section
/-! DEFINITION. The state (R20), the events (R50), the reasons to stop, and the state after reset (R38). -/

namespace Sys2Proof.Machine

/-- The 19 values of the state register (R21), each named for the byte it next expects. The spec's ordinals are
not modelled: no rule computes with them. -/
inductive St where
  /-- `S_IDLE` -/
  | idle
  /-- `S_SEL_DID` -/
  | selDid
  /-- `S_SEL_SID` -/
  | selSid
  /-- `S_SEL_ENQ` -/
  | selEnq
  /-- `S_HDR_SOH` -/
  | hdrSoh
  /-- `S_HDR_FMT` -/
  | hdrFmt
  /-- `S_HDR_DID` -/
  | hdrDid
  /-- `S_HDR_SID` -/
  | hdrSid
  /-- `S_HDR_FNC` -/
  | hdrFnc
  /-- `S_HDR_SIZ` -/
  | hdrSiz
  /-- `S_HDR_CKS` -/
  | hdrCks
  /-- `S_TXT_STX` -/
  | txtStx
  /-- `S_TXT_BODY` -/
  | txtBody
  /-- `S_TXT_ETX` -/
  | txtEtx
  /-- `S_TXT_CKS` -/
  | txtCks
  /-- `S_ACK_WAIT` -/
  | ackWait
  /-- `S_REPLY_HEADER_SENT` -/
  | replyHeaderSent
  /-- `S_REPLY_TEXT_SENT` -/
  | replyTextSent
  /-- `S_ERROR` -/
  | error
  deriving DecidableEq, Repr

/-- What happens to the machine from outside (R50). -/
inductive Event where
  /-- `RxByte(b)`: the serial collaborator delivers one byte. -/
  | rxByte (b : Byte)
  /-- `Timeout`: the idle timer fires (R170). -/
  | timeout
  /-- `HwReset` (R280). -/
  | hwReset
  deriving DecidableEq, Repr

/-- Sparse contents of one image, as pairs of an offset and a byte. An offset that is not listed reads as
`NEW_IMAGE_FILL`, what a new image holds (R74). `Memory.wf` states the canonical form. -/
abbrev Memory := List Host.Cell

/-- One image of the medium (R34): its name and its 2560 sectors of 128 bytes. -/
structure File where
  name : Name
  data : Memory
  deriving DecidableEq, Repr

/-- The machine never stops with a fault: "Nothing in this core is fatal to the process" (R250), every
state and byte have a rule (R172), and an address outside the sector space is answered with a status
(R212). So no constructor, and nothing raises one. -/
inductive Fault where
  deriving DecidableEq, Repr

/-- An instruction with no meaning. -/
inductive Refusal where
  /-- Raised only by an arm of `exec` whose instruction has no meaning in the model, of which there is none. Safe: the
  run stops. -/
  | notModelled (mnemonic : String)
  deriving DecidableEq, Repr

/-- The state. The fields down to `listing` and `tx` are the spec's (R20, R75); the last four are the model's
own: the parameters, and the inputs that the environment has yet to deliver. -/
structure State where
  /-- The state register (R21). -/
  st : St
  /-- Text body bytes received so far (R22). -/
  cnt : Byte
  /-- Format byte of the frame being received (R24). -/
  f_fmt : Byte
  /-- Destination id (R24). -/
  f_did : Byte
  /-- Source id (R24). -/
  f_sid : Byte
  /-- Function code (R24). -/
  f_fnc : Byte
  /-- Text size (R24). -/
  f_siz : Byte
  /-- Running checksum (R25). -/
  cks : Byte
  /-- Request text buffer (R26). -/
  txt : Vector Byte 255
  /-- Latest destination id received (R27). -/
  lat_did : Byte
  /-- Latest source id received (R27). -/
  lat_sid : Byte
  /-- Latest function code received (R27). -/
  lat_fnc : Byte
  /-- Latest text size received (R27). -/
  lat_siz : Byte
  /-- Latest checksum byte received (R27). -/
  lat_cks : Byte
  /-- The value of `st` when the latest exception was raised (R28). -/
  err_prev : St
  /-- Pending reply: destination id (R29). -/
  r_did : Byte
  /-- Pending reply: source id (R29). -/
  r_sid : Byte
  /-- Pending reply: function code (R29). -/
  r_fnc : Byte
  /-- Pending reply: text size (R29). -/
  r_siz : Byte
  /-- Reply text buffer (R29). -/
  rtxt : Vector Byte 129
  /-- The selected unit index, if any (R30). -/
  selected : Option Nat
  /-- Write-protect flag of each unit index (R31). -/
  wp : List Bool
  /-- Image name of each unit index (R32). -/
  name : List Name
  /-- First directory entry of the next listing (R33). -/
  dir_cursor : Nat
  /-- The images on the medium (R34), names rising. -/
  files : List File
  /-- What `DirList()` answers (R75): the collaborator's order and attribute bytes, which only a `Create`
  changes. -/
  listing : List DirEntry
  /-- Every byte sent, oldest first (R52). -/
  tx : List Byte
  /-- MODEL'S OWN. The parameters (R7), which no step changes (R37). -/
  cfg : Params
  /-- MODEL'S OWN. The events still to come, next first (R37, R50). -/
  rx : List Event
  /-- MODEL'S OWN. The medium's answers still to come, next first (R37, R72). -/
  env : List Draw
  /-- MODEL'S OWN. How many of the medium's answers were used; picks the free value once `env` is
  empty. -/
  drawn : Nat
  deriving DecidableEq, Repr

/-- The state after power-on (R38) of a machine with parameters `p`, a medium `files` and the listing
the collaborator gives for it. The two text buffers, which R38 leaves unspecified, are zero (U10). -/
def State.resetWith (p : Params) (files : List File) (listing : List DirEntry) : State where
  st := .idle
  cnt := 0
  f_fmt := 0
  f_did := 0
  f_sid := 0
  f_fnc := 0
  f_siz := 0
  cks := 0
  txt := Vector.replicate 255 0
  lat_did := 0
  lat_sid := 0
  lat_fnc := 0
  lat_siz := 0
  lat_cks := 0
  err_prev := .idle
  r_did := 0
  r_sid := 0
  r_fnc := 0
  r_siz := 0
  rtxt := Vector.replicate 129 0
  selected := none
  wp := p.units.map (·.defaultWp)
  name := p.units.map (·.defaultName)
  dir_cursor := 0
  files := files
  listing := listing
  tx := []
  cfg := p
  rx := []
  env := []
  drawn := 0

/-- The machine right after power-on, with the parameters `Config.params` and an empty medium (R283). -/
def State.reset : State := State.resetWith Config.params [] []

end Sys2Proof.Machine
end

