-- ==== Sys2Proof/Machine/Memory.lean ====
section
/-! DEFINITION. Sparse images and the file map: reading, writing, canonical form (R34, R61, R68). -/

namespace Sys2Proof.Machine

namespace Memory

/-- The byte at offset `a`. -/
def read (fill : Byte) : Memory → Nat → Byte
  | [], _ => fill
  | (k, v) :: m, a => if k = a then v else read fill m a

/-- `m` with byte `b` at offset `a`, in canonical form again: `fill` is not listed. -/
def write (fill : Byte) : Memory → Nat → Byte → Memory
  | [], a, b => if b = fill then [] else [(a, b)]
  | (k, v) :: m, a, b =>
    if k < a then (k, v) :: write fill m a b
    else if k = a then (if b = fill then m else (a, b) :: m)
    else if b = fill then (k, v) :: m
    else (a, b) :: (k, v) :: m

/-- `bs` at offsets `a`, `a + 1`, … -/
def writeList (fill : Byte) (m : Memory) (a : Nat) : List Byte → Memory
  | [] => m
  | b :: bs => writeList fill (write fill m a b) (a + 1) bs

/-- The `n` bytes from offset `a`. -/
def readList (fill : Byte) (m : Memory) (a n : Nat) : List Byte :=
  (List.range n).map fun i => read fill m (a + i)

/-- Offsets strictly rising from at least `lo`, all inside the image, no listed byte equal to `fill`. -/
def wfFrom (fill : Byte) (lo : Nat) : Memory → Bool
  | [] => true
  | (k, v) :: m => decide (lo ≤ k) && decide (k < Config.IMAGE_BYTES) && v != fill && wfFrom fill (k + 1) m

/-- The canonical form of an image. -/
def wf (fill : Byte) (m : Memory) : Bool := wfFrom fill 0 m

end Memory

/-- A name as a number, first byte most significant: the order in which `files` is kept. -/
def nameKey (n : Name) : Nat := n.toList.foldl (fun a b => 256 * a + b.toNat) 0

namespace Files

/-- The image of a name, if present. -/
def find : List File → Name → Option Memory
  | [], _ => none
  | f :: fs, n => if f.name = n then some f.data else find fs n

/-- `fs` with the image of `n` replaced or added, names rising. -/
def put : List File → Name → Memory → List File
  | [], n, m => [⟨n, m⟩]
  | f :: fs, n, m =>
    if nameKey f.name < nameKey n then f :: put fs n m
    else if nameKey f.name = nameKey n then ⟨n, m⟩ :: fs
    else ⟨n, m⟩ :: f :: fs

/-- Names strictly rising from at least `lo`, every image in canonical form. -/
def wfFrom (fill : Byte) (lo : Nat) : List File → Bool
  | [] => true
  | f :: fs => decide (lo ≤ nameKey f.name) && f.data.wf fill && wfFrom fill (nameKey f.name + 1) fs

/-- The canonical form of the medium: equal file maps are equal lists. -/
def wf (fill : Byte) (fs : List File) : Bool := wfFrom fill 0 fs

end Files

end Sys2Proof.Machine
end

