-- ==== Sys2Proof/Machine/Operands.lean ====
section
/-! DEFINITION. Where the rules take their operands from: the request text, the unit, the sector number, the sector
data, the name, the sub-operation code (R62, R63, R100, R211, R230, R232). -/

namespace Sys2Proof.Machine

/-- `T = txt[0..f_siz)` (R200). -/
def requestText (s : State) : List Byte := s.txt.toList.take s.f_siz.toNat

/-- `UnitIndex(b)` (R14): the position of `b` in `UNIT_IDS`. -/
def unitIndex (p : Params) (b : Byte) : Option Nat := p.unitIds.idxOf? b

/-- The unit a request acts on: the header's destination id (R211, decision D17). -/
def targetUnit (s : State) : Option Nat := unitIndex s.cfg s.f_did

/-- `n = T[0] + 256 * T[1]` (R62): low byte first. -/
def sectorNumber (T : List Byte) : Nat := (T.getD 0 0).toNat + 256 * (T.getD 1 0).toNat

/-- `T[2..130)` (R63, R206). -/
def sectorData (T : List Byte) : List Byte := (T.drop 2).take Config.SECTOR_BYTES

/-- `T[0]` (R230). -/
def subOperation (T : List Byte) : Byte := T.getD 0 0

/-- `T[1..13)` (R232). -/
def nameOperand (T : List Byte) : Name := Vector.ofFn fun i => T.getD (i.val + 1) 0

/-- `name[u]` (R32). Twelve zeros for an index that is no unit, which no rule reaches. -/
def unitName (s : State) (u : Nat) : Name := s.name.getD u (Vector.replicate 12 0)

/-- `wp[u]` (R31). -/
def unitWp (s : State) (u : Nat) : Bool := s.wp.getD u false

/-- `files[name[u]]` (R69). -/
def imageOf (s : State) (u : Nat) : Option Memory := Files.find s.files (unitName s u)

/-- A directory entry's 16 bytes: the name, then the collaborator's four (R104). -/
def entryBytes (e : DirEntry) : List Byte := e.name.toList ++ e.attr.toList

/-- `R` at the start of a buffer, the rest as it was (R201). -/
def overwrite {n : Nat} (R : List Byte) (v : Vector Byte n) : Vector Byte n :=
  Vector.ofFn fun i => R.getD i.val v[i]

end Sys2Proof.Machine
end

