-- ==== Sys2Proof/Machine/Flags.lean ====
section
/-! DEFINITION. The flags and the drive table: `selected`, `wp[u]`, `name[u]` (R30 to R32, R35). The hardware has no
arithmetic condition codes; whether a checksum matched is used up in the step that computes it (R35). -/

namespace Sys2Proof.Machine

/-- `selected <- u` (R154, R204). -/
def selectUnit (u : Nat) (s : State) : State := { s with selected := some u }

/-- `selected <- none` (R203). -/
def deselect (s : State) : State := { s with selected := none }

/-- `wp[u] <- not wp[u]` (R234). -/
def toggleProtect (u : Nat) (s : State) : State := { s with wp := s.wp.modify u (fun b => !b) }

/-- `name[u] <- n` (R232). -/
def mount (u : Nat) (n : Name) (s : State) : State := { s with name := s.name.set u n }

/-- Every `name[u]` and `wp[u]` at its default (R235, R38). -/
def defaultTable (s : State) : State :=
  { s with name := s.cfg.units.map (·.defaultName), wp := s.cfg.units.map (·.defaultWp) }

/-- The checksum test (R135): equality, no tolerance. -/
def checksumMatches (s : State) (b : Byte) : Bool := b == s.cks

end Sys2Proof.Machine
end

