-- ==== Sys2Proof/Machine/Ops.lean ====
section
/-! DEFINITION. The shared operations: output, the in-progress frame, the exceptions and the resynchronisation that
ends them, reply assembly, and the two events that are no byte. -/

namespace Sys2Proof.Machine

/-- `Tx(bytes)` (R12, R52). -/
def send (bytes : List Byte) (s : State) : State := { s with tx := s.tx ++ bytes }

/-- `ClearFrame()` (R14, decision D37). -/
def clearFrame (s : State) : State :=
  { s with f_fmt := 0, f_did := 0, f_sid := 0, f_fnc := 0, f_siz := 0, cks := 0, cnt := 0 }

/-! ## Taking an exception, and the return from one -/

/-- What every exception does (R251 to R253, R259): `err_prev` records the state it was raised in, the frame is
cleared, control goes to `S_ERROR`. -/
def enterError (pre : St) (s : State) : State :=
  { clearFrame s with err_prev := pre, st := .error }

/-- `raise FramingViolation` (R251). Nothing is sent. -/
def framingViolation (s : State) : State := enterError s.st s

/-- `raise ChecksumFailure(header)` (R252). -/
def headerChecksumFailure (s : State) : State := enterError .hdrCks (send [Config.NAK] s)

/-- `raise ChecksumFailure(text)` (R253). -/
def textChecksumFailure (s : State) : State := enterError .txtCks (send [Config.NAK] s)

/-- A start character begins a frame (R151, R169); from `S_ERROR` this is the return from an exception
(R260). Any other byte is no start character. -/
def startFrame (b : Byte) (s : State) : Option State :=
  if b = Config.SEL then some { clearFrame s with st := .selDid }
  else if b = Config.SOH then some { clearFrame s with st := .hdrFmt }
  else none

/-! ## Replies -/

/-- `Reply(R)` (R201). -/
def reply (R : List Byte) (s : State) : State :=
  { s with
    r_did := s.f_sid
    r_sid := s.f_did
    r_fnc := s.f_fnc
    r_siz := BitVec.ofNat 8 R.length
    rtxt := overwrite R s.rtxt }

/-- The malformed-request reply (R208, R209). -/
def malformed (s : State) : State := reply [s.cfg.stMalformed] s

/-- The header bytes of the pending reply (R102, R166). -/
def pendingHeader (s : State) : List Byte :=
  encodeHeader Config.FMT_SM s.r_did s.r_sid s.r_fnc s.r_siz

/-- The text of the pending reply, `rtxt[0..r_siz)` (R29). -/
def pendingText (s : State) : List Byte := s.rtxt.toList.take s.r_siz.toNat

/-! ## The events that are no byte -/

/-- `Timeout` (R170). It exists only when `TIMEOUT_ENABLED` and only outside `S_IDLE`; an event that does
not exist changes nothing. -/
def timeout (s : State) : State :=
  if s.cfg.timeoutEnabled && s.st != .idle then { clearFrame s with st := .idle } else s

/-- `HwReset` (R171, R280): every register at its reset value. The medium is untouched (R282), the log of
sent bytes is kept (R38 allows it), and the inputs still to come stay. -/
def hwReset (s : State) : State :=
  { State.resetWith s.cfg s.files s.listing with
    tx := s.tx, rx := s.rx, env := s.env, drawn := s.drawn }

end Sys2Proof.Machine
end

