-- ==== Sys2Proof/Machine/Backend.lean ====
section
/-! DEFINITION. The storage backend's calls (R70 to R75). -/

namespace Sys2Proof.Machine

/-- The environment's next answer (R72): the head of `env`, or the free value once `env` is empty. -/
def nextDraw (s : State) : Draw := s.env.headD (Config.freeDraw s.drawn)

/-- The state once that answer is used. -/
def takeDraw (s : State) : State := { s with env := s.env.tail, drawn := s.drawn + 1 }

/-- What `MemRead` returns (R11). -/
inductive ReadResult where
  | data (bytes : List Byte)
  | notFound
  | outOfRange
  deriving DecidableEq, Repr

/-- `MemRead((u, n), 128)` (R70). It changes nothing. -/
def memRead (u n : Nat) (s : State) : ReadResult :=
  if Config.DISK_SECTORS ≤ n then .outOfRange
  else
    match imageOf s u with
    | none => .notFound
    | some m => .data (m.readList s.cfg.newImageFill (Config.SECTOR_BYTES * n) Config.SECTOR_BYTES)

/-- What `MemWrite` returns (R11). -/
inductive WriteResult where
  | ok
  | writeProtected
  | outOfRange
  | ioError
  deriving DecidableEq, Repr

/-- The medium with the bytes `v` stored in sector `n` of image `m` of unit `u` (R63, R71). -/
def storeSector (u n : Nat) (m : Memory) (v : List Byte) (s : State) : State :=
  { s with
    files := Files.put s.files (unitName s u)
      (m.writeList s.cfg.newImageFill (Config.SECTOR_BYTES * n) v) }

/-- `MemWrite((u, n), 128, v)` (R71). After a medium error the addressed sector holds whatever the
environment left there (R72). -/
def memWrite (u n : Nat) (v : List Byte) (s : State) : WriteResult × State :=
  if unitWp s u then (.writeProtected, s)
  else if Config.DISK_SECTORS ≤ n then (.outOfRange, s)
  else
    match imageOf s u with
    | none => (.ioError, s)
    | some m =>
      if (nextDraw s).fails then
        (.ioError, storeSector u n m (nextDraw s).left.toList (takeDraw s))
      else (.ok, storeSector u n m v (takeDraw s))

/-- `Exists(u)` (R73). -/
def imageExists (u : Nat) (s : State) : Bool := (imageOf s u).isSome

/-- A listing that `DirList()` may answer for `fs` (R75): one entry per name present, no name twice. -/
def legalListing (fs : List File) (l : List DirEntry) : Bool :=
  (l.map (·.name)).isPerm (fs.map (·.name))

/-- The listing after a successful `Create` of `n`: the one the environment gives if R75 allows it, else
the old one with the new name at its end. -/
def relist (fs : List File) (n : Name) (d : Draw) (old : List DirEntry) : List DirEntry :=
  if legalListing fs d.relisting then d.relisting
  else old ++ [⟨n, Vector.replicate 4 0⟩]

/-- What `Create` returns (R74). -/
inductive CreateResult where
  | ok
  | ioError
  deriving DecidableEq, Repr

/-- `Create(u)` (R74): a new image of which every byte is `NEW_IMAGE_FILL`. -/
def createImage (u : Nat) (s : State) : CreateResult × State :=
  if (nextDraw s).fails then (.ioError, takeDraw s)
  else
    let fs := Files.put s.files (unitName s u) []
    (.ok, { takeDraw s with
              files := fs
              listing := relist fs (unitName s u) (nextDraw s) s.listing })

/-- `DirList()` (R75). -/
def dirList (s : State) : List DirEntry := s.listing

end Sys2Proof.Machine
end

