-- ==== Sys2Proof/Machine/Disk.lean ====
section
/-! DEFINITION. The disk functions (R203 to R209, R211) and their meanings. -/

namespace Sys2Proof.Machine

/-- The size check (R202 test 2, R209): nothing but the reply registers is written when it fails. -/
def withSize (size : Nat) (f : State → State) (s : State) : State :=
  if s.f_siz.toNat = size then f s else malformed s

/-- The unit check (R202 test 3, R211). -/
def withUnit (f : Nat → State → State) (s : State) : State :=
  match targetUnit s with
  | some u => f u s
  | none => reply [Config.ST_SELECT_ERR] s

/-- `RESET` (R203). -/
def fnReset : State → State :=
  withSize 0 fun s => reply [Config.ST_OK] { deselect s with dir_cursor := 0 }

/-- `SELECT` (R204). -/
def fnSelect : State → State :=
  withSize 0 (withUnit fun u s => reply [Config.ST_OK] (selectUnit u s))

/-- The reply text of `READ` for each result of `MemRead` (R205). -/
def readReply : ReadResult → List Byte
  | .data bytes => Config.ST_OK :: bytes
  | .notFound => [Config.ST_READ_ERR]
  | .outOfRange => [Config.ST_READ_ERR]

/-- `READ` (R205). -/
def fnRead : State → State :=
  withSize 2 (withUnit fun u s => reply (readReply (memRead u (sectorNumber (requestText s)) s)) s)

/-- The status of `WRITE` for each result of `MemWrite` (R206). -/
def writeStatus : WriteResult → Byte
  | .ok => Config.ST_OK
  | .writeProtected => Config.ST_DISK_WP
  | .outOfRange => Config.ST_WRITE_ERR
  | .ioError => Config.ST_WRITE_ERR

/-- `WRITE` (R206). -/
def fnWrite : State → State :=
  withSize 130 (withUnit fun u s =>
    let r := memWrite u (sectorNumber (requestText s)) (sectorData (requestText s)) s
    reply [writeStatus r.1] r.2)

/-- `FLUSH` (R207): a no-op acknowledgement. -/
def fnFlush : State → State :=
  withSize 0 (reply [Config.ST_OK])

/-- An unknown function code (R208), whatever its size and text. -/
def fnUnknown (s : State) : State := malformed s

/-! ## The meanings -/

/-- `RESET`, dispatched. -/
def execReset (s : State) : Host.Outcome State Fault Refusal := .next (fnReset s)

/-- `SELECT`, dispatched. -/
def execSelect (s : State) : Host.Outcome State Fault Refusal := .next (fnSelect s)

/-- `READ`, dispatched. -/
def execRead (s : State) : Host.Outcome State Fault Refusal := .next (fnRead s)

/-- `WRITE`, dispatched. -/
def execWrite (s : State) : Host.Outcome State Fault Refusal := .next (fnWrite s)

/-- `FLUSH`, dispatched. -/
def execFlush (s : State) : Host.Outcome State Fault Refusal := .next (fnFlush s)

end Sys2Proof.Machine
end

