-- ==== Sys2Proof/Machine/Image.lean ====
section
/-! DEFINITION. Image management, function 0xE0 (R230 to R236), and its meanings. -/

namespace Sys2Proof.Machine

/-- The number of entries in the next page (R231): `min(8, m - dir_cursor)`, none at or past the end. -/
def pageCount (cursor m : Nat) : Nat := min Config.DIR_ENTRIES_PER_MSG (m - cursor)

/-- The entries of the next page. -/
def page (s : State) : List DirEntry :=
  ((dirList s).drop s.dir_cursor).take (pageCount s.dir_cursor (dirList s).length)

/-- The cursor after a page (R231): on by 8 after a full one, rewound otherwise. -/
def nextCursor (s : State) : Nat :=
  if pageCount s.dir_cursor (dirList s).length = Config.DIR_ENTRIES_PER_MSG
  then s.dir_cursor + Config.DIR_ENTRIES_PER_MSG else 0

/-- `IMG.DIR` (R231). Needs no unit. -/
def fnImgDir : State → State :=
  withSize 1 fun s =>
    { reply (Config.ST_OK :: (page s).flatMap entryBytes) s with dir_cursor := nextCursor s }

/-- `IMG.MOUNT` (R232). It does not look whether the image exists. -/
def fnImgMount : State → State :=
  withSize 13 (withUnit fun u s =>
    reply [Config.ST_OK] (mount u (nameOperand (requestText s)) s))

/-- `IMG.CREATE` where no image of the name exists (R233). -/
def createFresh (u : Nat) (s : State) : State :=
  match createImage u s with
  | (.ok, t) => reply [Config.ST_OK] { t with dir_cursor := 0 }
  | (.ioError, t) => reply [Config.ST_WRITE_ERR] t

/-- `IMG.CREATE` (R233). It never overwrites, and write-protect does not forbid it. -/
def fnImgCreate : State → State :=
  withSize 1 (withUnit fun u s =>
    if imageExists u s then reply [Config.ST_WRITE_ERR] s else createFresh u s)

/-- `IMG.PROTECT` (R234). -/
def fnImgProtect : State → State :=
  withSize 1 (withUnit fun u s => reply [Config.ST_OK] (toggleProtect u s))

/-- `IMG.DEFAULTS` (R235). Needs no unit. -/
def fnImgDefaults : State → State :=
  withSize 1 fun s => reply [Config.ST_OK] { defaultTable s with dir_cursor := 0 }

/-- A sub-operation code that is none of the five (R236). -/
def fnImgUnknown (s : State) : State := malformed s

/-- `IMG` (R230): no text, no sub-operation; else the first text byte decides. -/
def fnImg (s : State) : State :=
  if s.f_siz = 0 then malformed s
  else
    match decodeImg s.cfg (subOperation (requestText s)) with
    | .ok .imgDir => fnImgDir s
    | .ok .imgMount => fnImgMount s
    | .ok .imgCreate => fnImgCreate s
    | .ok .imgProtect => fnImgProtect s
    | .ok .imgDefaults => fnImgDefaults s
    | .ok _ => fnImgUnknown s
    | .error _ => fnImgUnknown s

/-! ## The meanings -/

/-- `IMG`, dispatched. -/
def execImg (s : State) : Host.Outcome State Fault Refusal := .next (fnImg s)

/-- `IMG.DIR`, dispatched. -/
def execImgDir (s : State) : Host.Outcome State Fault Refusal := .next (fnImgDir s)

/-- `IMG.MOUNT`, dispatched. -/
def execImgMount (s : State) : Host.Outcome State Fault Refusal := .next (fnImgMount s)

/-- `IMG.CREATE`, dispatched. -/
def execImgCreate (s : State) : Host.Outcome State Fault Refusal := .next (fnImgCreate s)

/-- `IMG.PROTECT`, dispatched. -/
def execImgProtect (s : State) : Host.Outcome State Fault Refusal := .next (fnImgProtect s)

/-- `IMG.DEFAULTS`, dispatched. -/
def execImgDefaults (s : State) : Host.Outcome State Fault Refusal := .next (fnImgDefaults s)

end Sys2Proof.Machine
end

