-- ==== Sys2Proof/Machine/Receive.lean ====
section
/-! DEFINITION. The dispatcher's decoding (R200, R202) and the state machine: one rule per state, R151 to R169. -/

namespace Sys2Proof.Machine

/-- `Dispatch(T)` (R200, R202): the function code first; each function then checks its size and its
unit. It ends by writing the reply registers and sends nothing (R210). -/
def dispatch (s : State) : State :=
  match decodeFnc s.f_fnc with
  | .ok .reset => fnReset s
  | .ok .select => fnSelect s
  | .ok .read => fnRead s
  | .ok .write => fnWrite s
  | .ok .flush => fnFlush s
  | .ok .img => fnImg s
  | .ok _ => fnUnknown s
  | .error _ => fnUnknown s

/-- What follows a dispatch (R161, R165): `Tx([0x06]); st <- S_ACK_WAIT`. -/
def acknowledgeRequest (s : State) : State := { send [Config.ACK] s with st := .ackWait }

/-- `lat_cks <- b` (R161, R165): it takes effect whether or not the byte matches. -/
def noteChecksum (b : Byte) (s : State) : State := { s with lat_cks := b }

/-- `S_IDLE` (R151). -/
def rxIdle (b : Byte) (s : State) : State :=
  match startFrame b s with
  | some t => t
  | none => framingViolation s

/-- `S_SEL_DID` (R152). -/
def rxSelDid (b : Byte) (s : State) : State :=
  { s with f_did := b, lat_did := b, st := .selSid }

/-- `S_SEL_SID` (R153). -/
def rxSelSid (b : Byte) (s : State) : State :=
  { s with f_sid := b, lat_sid := b, st := .selEnq }

/-- `S_SEL_ENQ` (R154): a select frame for one of this device's units is acknowledged, any other is dropped in
silence. -/
def rxSelEnq (b : Byte) (s : State) : State :=
  if b = Config.ENQ then
    match targetUnit s with
    | some u => { send [Config.ACK] (selectUnit u s) with st := .hdrSoh }
    | none => { clearFrame s with st := .idle }
  else framingViolation s

/-- `S_HDR_SOH` (R155). -/
def rxHdrSoh (b : Byte) (s : State) : State :=
  if b = Config.SOH then { clearFrame s with st := .hdrFmt } else framingViolation s

/-- `S_HDR_FMT` (R156). -/
def rxHdrFmt (b : Byte) (s : State) : State :=
  if b = Config.FMT_MS then { s with f_fmt := b, cks := accumulate s.cks b, st := .hdrDid }
  else framingViolation s

/-- `S_HDR_DID` (R157). -/
def rxHdrDid (b : Byte) (s : State) : State :=
  { s with f_did := b, lat_did := b, cks := accumulate s.cks b, st := .hdrSid }

/-- `S_HDR_SID` (R158). -/
def rxHdrSid (b : Byte) (s : State) : State :=
  { s with f_sid := b, lat_sid := b, cks := accumulate s.cks b, st := .hdrFnc }

/-- `S_HDR_FNC` (R159). -/
def rxHdrFnc (b : Byte) (s : State) : State :=
  { s with f_fnc := b, lat_fnc := b, cks := accumulate s.cks b, st := .hdrSiz }

/-- `S_HDR_SIZ` (R160). -/
def rxHdrSiz (b : Byte) (s : State) : State :=
  { s with f_siz := b, lat_siz := b, cks := accumulate s.cks b, st := .hdrCks }

/-- `S_HDR_CKS` (R161): the size field alone decides whether a text follows. -/
def rxHdrCks (b : Byte) (s : State) : State :=
  if checksumMatches s b then
    if s.f_siz = 0 then acknowledgeRequest (dispatch (noteChecksum b s))
    else { send [Config.ACK] (noteChecksum b s) with cks := 0, cnt := 0, st := .txtStx }
  else headerChecksumFailure (noteChecksum b s)

/-- `S_TXT_STX` (R162). -/
def rxTxtStx (b : Byte) (s : State) : State :=
  if b = Config.STX then { s with cks := 0, cnt := 0, st := .txtBody } else framingViolation s

/-- `S_TXT_BODY` (R163): exactly `f_siz` bytes, whatever their values. -/
def rxTxtBody (b : Byte) (s : State) : State :=
  { s with
    txt := s.txt.setIfInBounds s.cnt.toNat b
    cks := accumulate s.cks b
    cnt := s.cnt + 1
    st := if s.cnt + 1 = s.f_siz then .txtEtx else .txtBody }

/-- `S_TXT_ETX` (R164). -/
def rxTxtEtx (b : Byte) (s : State) : State :=
  if b = Config.ETX then { s with st := .txtCks } else framingViolation s

/-- `S_TXT_CKS` (R165): the dispatch happens in this step, before the `ACK` is sent. -/
def rxTxtCks (b : Byte) (s : State) : State :=
  if checksumMatches s b then acknowledgeRequest (dispatch (noteChecksum b s))
  else textChecksumFailure (noteChecksum b s)

/-- Sending the pending reply's header (R166). -/
def sendReplyHeader (s : State) : State := { send (pendingHeader s) s with st := .replyHeaderSent }

/-- `S_ACK_WAIT` (R166). -/
def rxAckWait (b : Byte) (s : State) : State :=
  if b = Config.EOT then sendReplyHeader s else framingViolation s

/-- `S_REPLY_HEADER_SENT` (R167). -/
def rxReplyHeaderSent (b : Byte) (s : State) : State :=
  if b = Config.ACK then { send (encodeText (pendingText s)) s with st := .replyTextSent }
  else framingViolation s

/-- `S_REPLY_TEXT_SENT` (R168). -/
def rxReplyTextSent (b : Byte) (s : State) : State :=
  if b = Config.ACK then { clearFrame (send [Config.EOT] s) with st := .idle }
  else framingViolation s

/-- `S_ERROR` (R169): a start character begins a frame, every other byte is discarded. -/
def rxError (b : Byte) (s : State) : State :=
  match startFrame b s with
  | some t => t
  | none => s

/-- `RxByte(b)`: the state register alone selects the rule (R21, R150, R175). -/
def receive (b : Byte) (s : State) : State :=
  match s.st with
  | .idle => rxIdle b s
  | .selDid => rxSelDid b s
  | .selSid => rxSelSid b s
  | .selEnq => rxSelEnq b s
  | .hdrSoh => rxHdrSoh b s
  | .hdrFmt => rxHdrFmt b s
  | .hdrDid => rxHdrDid b s
  | .hdrSid => rxHdrSid b s
  | .hdrFnc => rxHdrFnc b s
  | .hdrSiz => rxHdrSiz b s
  | .hdrCks => rxHdrCks b s
  | .txtStx => rxTxtStx b s
  | .txtBody => rxTxtBody b s
  | .txtEtx => rxTxtEtx b s
  | .txtCks => rxTxtCks b s
  | .ackWait => rxAckWait b s
  | .replyHeaderSent => rxReplyHeaderSent b s
  | .replyTextSent => rxReplyTextSent b s
  | .error => rxError b s

/-- Several bytes, one transition each, in order (R51, R175). -/
def receiveAll (bytes : List Byte) (s : State) : State := bytes.foldl (fun s b => receive b s) s

end Sys2Proof.Machine
end

