-- ==== Sys2Proof/Machine/Control.lean ====
section
/-! DEFINITION. The meanings of the control characters: a received byte has no meaning of its own, its meaning is
(state, byte) (R107), so each is the transition of R150 for its value. -/

namespace Sys2Proof.Machine

/-- `SOH` received: opens a header in `S_IDLE`, `S_ERROR`, `S_HDR_SOH` (R151, R155, R169). -/
def execSoh (s : State) : Host.Outcome State Fault Refusal := .next (receive Config.SOH s)

/-- `STX` received: opens a text in `S_TXT_STX` (R162). -/
def execStx (s : State) : Host.Outcome State Fault Refusal := .next (receive Config.STX s)

/-- `ETX` received: ends a body in `S_TXT_ETX` (R164). -/
def execEtx (s : State) : Host.Outcome State Fault Refusal := .next (receive Config.ETX s)

/-- `EOT` received: turns the line around in `S_ACK_WAIT` (R166). -/
def execEot (s : State) : Host.Outcome State Fault Refusal := .next (receive Config.EOT s)

/-- `ENQ` received: completes a select frame in `S_SEL_ENQ` (R154). -/
def execEnq (s : State) : Host.Outcome State Fault Refusal := .next (receive Config.ENQ s)

/-- `ACK` received: asks for the reply text (R167), then ends the exchange (R168). -/
def execAck (s : State) : Host.Outcome State Fault Refusal := .next (receive Config.ACK s)

/-- `NAK` received: never accepted as such (R91, R285). -/
def execNak (s : State) : Host.Outcome State Fault Refusal := .next (receive Config.NAK s)

/-- `SEL` received: opens a select frame in `S_IDLE`, `S_ERROR` (R151, R169). -/
def execSel (s : State) : Host.Outcome State Fault Refusal := .next (receive Config.SEL s)

end Sys2Proof.Machine
end

