-- ==== Sys2Proof/Machine/Frames.lean ====
section
/-! DEFINITION. The meanings of the frames: their bytes, one transition each, in wire order (R92 to R94, R175). -/

namespace Sys2Proof.Machine

/-- `SELF` received: four bytes (R92, R151 to R154). -/
def execSelF (did sid : Byte) (s : State) : Host.Outcome State Fault Refusal :=
  .next (receiveAll (encode s.cfg (.selF did sid)) s)

/-- `HDR` received: seven bytes (R93, R155 to R161). -/
def execHdr (did sid fnc siz cks : Byte) (s : State) : Host.Outcome State Fault Refusal :=
  .next (receiveAll (encode s.cfg (.hdr did sid fnc siz cks)) s)

/-- `RHDR`: the frame this device sends on `EOT` in `S_ACK_WAIT` (R102, R166). There, when it is the header of
the pending reply, its meaning is that it is sent. Anywhere else it can only have come over the line, where it is
never accepted: its format byte is a framing violation (R156). -/
def execRhdr (did sid fnc siz cks : Byte) (s : State) : Host.Outcome State Fault Refusal :=
  let bytes := encode s.cfg (.rhdr did sid fnc siz cks)
  if s.st = .ackWait ∧ bytes = pendingHeader s then .next (sendReplyHeader s)
  else .next (receiveAll bytes s)

/-- `TXT` received: the body's size and three more bytes (R94, R162 to R165). -/
def execTxt (body : List Byte) (cks : Byte) (s : State) : Host.Outcome State Fault Refusal :=
  .next (receiveAll (encode s.cfg (.txt body cks)) s)

end Sys2Proof.Machine
end

