-- ==== Sys2Proof/Machine/Dispatch.lean ====
section
/-! DEFINITION. One arm per row of the opcode table. -/

namespace Sys2Proof.Machine

def exec (i : Instr) (s : State) : Host.Outcome State Fault Refusal :=
  match i with
  -- control characters (R91)
  | .soh => Sys2Proof.Machine.execSoh s
  | .stx => Sys2Proof.Machine.execStx s
  | .etx => Sys2Proof.Machine.execEtx s
  | .eot => Sys2Proof.Machine.execEot s
  | .enq => Sys2Proof.Machine.execEnq s
  | .ack => Sys2Proof.Machine.execAck s
  | .nak => Sys2Proof.Machine.execNak s
  | .sel => Sys2Proof.Machine.execSel s
  -- frames (R92 to R94)
  | .selF did sid => Sys2Proof.Machine.execSelF did sid s
  | .hdr did sid fnc siz cks => Sys2Proof.Machine.execHdr did sid fnc siz cks s
  | .rhdr did sid fnc siz cks => Sys2Proof.Machine.execRhdr did sid fnc siz cks s
  | .txt body cks => Sys2Proof.Machine.execTxt body cks s
  -- function codes (R105)
  | .reset => Sys2Proof.Machine.execReset s
  | .select => Sys2Proof.Machine.execSelect s
  | .read => Sys2Proof.Machine.execRead s
  | .write => Sys2Proof.Machine.execWrite s
  | .flush => Sys2Proof.Machine.execFlush s
  | .img => Sys2Proof.Machine.execImg s
  -- sub-operations of function 0xE0 (R106)
  | .imgDir => Sys2Proof.Machine.execImgDir s
  | .imgMount => Sys2Proof.Machine.execImgMount s
  | .imgCreate => Sys2Proof.Machine.execImgCreate s
  | .imgProtect => Sys2Proof.Machine.execImgProtect s
  | .imgDefaults => Sys2Proof.Machine.execImgDefaults s

end Sys2Proof.Machine
end

