-- ==== Sys2Proof/Machine/Fetch.lean ====
section
/-! DEFINITION. Taking the next event from the input and running it (R15, R50), and placing an instruction so that
the next step runs it. -/

namespace Sys2Proof.Machine

/-- `RxByte(b)`: a control character runs its instruction; any other byte is data for the rule of the
current state. Both are the one transition of R150 for the byte. -/
def runByte (b : Byte) (s : State) : Host.Outcome State Fault Refusal :=
  match decodeCtl b with
  | .ok i => exec i s
  | .error _ => .next (receive b s)

/-- One event (R50). -/
def runEvent : Event → State → Host.Outcome State Fault Refusal
  | .rxByte b, s => runByte b s
  | .timeout, s => .next (timeout s)
  | .hwReset, s => .next (hwReset s)

/-- The next event, if there is one. Between events the machine has nothing to do (R173, R269). -/
def runNext (s : State) : Host.Outcome State Fault Refusal :=
  match s.rx with
  | [] => .next s
  | e :: rest => runEvent e { s with rx := rest }

/-! ## Placing an instruction -/

/-- `s` with byte `b` next on the line. -/
def queueByte (b : Byte) (s : State) : State := { s with rx := .rxByte b :: s.rx }

/-- A select frame received up to its enquiry, which is next on the line (R152 to R154). -/
def placeSelect (did sid : Byte) (s : State) : State :=
  queueByte Config.ENQ
    { clearFrame s with st := .selEnq, f_did := did, f_sid := sid, lat_did := did, lat_sid := sid }

/-- A header received up to its checksum byte `c`, which is next on the line (R155 to R161). -/
def placeHeader (did sid fnc siz c : Byte) (s : State) : State :=
  queueByte c
    { clearFrame s with
      st := .hdrCks, f_did := did, f_sid := sid, f_fnc := fnc, f_siz := siz
      cks := headerCks Config.FMT_MS did sid fnc siz
      lat_did := did, lat_sid := sid, lat_fnc := fnc, lat_siz := siz }

/-- A text received up to its checksum byte `c`, which is next on the line (R162 to R165). -/
def placeText (body : List Byte) (c : Byte) (s : State) : State :=
  queueByte c
    { s with
      st := .txtCks, f_siz := BitVec.ofNat 8 body.length, cnt := BitVec.ofNat 8 body.length
      cks := textCks body, txt := overwrite body s.txt }

/-- A pending reply with these header fields, and the `EOT` that sends it next on the line (R166). -/
def placeReply (did sid fnc siz : Byte) (s : State) : State :=
  queueByte Config.EOT { s with st := .ackWait, r_did := did, r_sid := sid, r_fnc := fnc, r_siz := siz }

/-- A request of function `fnc` with text `T` received up to its last checksum byte, which is next on the
line. The ids are those of the state. -/
def placeRequest (fnc : Byte) (T : List Byte) (s : State) : State :=
  if T = [] then placeHeader s.f_did s.f_sid fnc 0 (headerCks Config.FMT_MS s.f_did s.f_sid fnc 0) s
  else placeText T (textCks T) { s with f_fnc := fnc }

/-- `s` made ready so that the very next step runs `i`. Operands that the one-byte codes do not carry (the sector
number, the data, the name) are zero bytes of the size the function expects (R100). -/
def placeInstr (i : Instr) (s : State) : State :=
  match i with
  | .soh => queueByte Config.SOH s
  | .stx => queueByte Config.STX s
  | .etx => queueByte Config.ETX s
  | .eot => queueByte Config.EOT s
  | .enq => queueByte Config.ENQ s
  | .ack => queueByte Config.ACK s
  | .nak => queueByte Config.NAK s
  | .sel => queueByte Config.SEL s
  | .selF did sid => placeSelect did sid s
  | .hdr did sid fnc siz cks => placeHeader did sid fnc siz cks s
  | .rhdr did sid fnc siz _ => placeReply did sid fnc siz s
  | .txt body cks => placeText body cks s
  | .reset => placeRequest Config.FN_RESET [] s
  | .select => placeRequest Config.FN_SELECT [] s
  | .read => placeRequest Config.FN_READ (List.replicate 2 0) s
  | .write => placeRequest Config.FN_WRITE (List.replicate 130 0) s
  | .flush => placeRequest Config.FN_FLUSH [] s
  | .img => placeRequest Config.FN_IMG [] s
  | .imgDir => placeRequest Config.FN_IMG [s.cfg.imgDir] s
  | .imgMount => placeRequest Config.FN_IMG (s.cfg.imgMount :: List.replicate 12 0) s
  | .imgCreate => placeRequest Config.FN_IMG [s.cfg.imgCreate] s
  | .imgProtect => placeRequest Config.FN_IMG [s.cfg.imgProtect] s
  | .imgDefaults => placeRequest Config.FN_IMG [s.cfg.imgDefaults] s

/-- A table word made the next thing the machine runs; a word that is no instruction is left on the line,
byte by byte. -/
def placeWord (nbits w : Nat) (s : State) : State :=
  match decodeTableWord nbits w with
  | some i => placeInstr i s
  | none => { s with rx := (wordBytes ((nbits + 7) / 8) w).map .rxByte ++ s.rx }

end Sys2Proof.Machine
end

