-- ==== Sys2Proof/Machine/Step.lean ====
section
/-! DEFINITION. One step (R15). -/

namespace Sys2Proof.Machine

/-- The next event runs to completion: one byte is one transition (R15, R175). -/
def step (s : State) : Host.Outcome State Fault Refusal := runNext s

/-- `s` with the instruction of a table word where the next step finds it. -/
def State.withFetchWord (s : State) (nbits w : Nat) : State := placeWord nbits w s

end Sys2Proof.Machine
end

