-- ==== Sys2Proof/Safety.lean ====
section
/-! DEFINITION. What every reachable state satisfies (R54, R22, R134, R34, R75), in the terms claims use. -/

namespace Sys2Proof.Machine

/-- The in-progress frame is clear (R54 g). -/
def frameClear (s : State) : Prop :=
  s.f_fmt = 0 ∧ s.f_did = 0 ∧ s.f_sid = 0 ∧ s.f_fnc = 0 ∧ s.f_siz = 0 ∧ s.cks = 0 ∧ s.cnt = 0

/-- What `cks` holds while a frame comes in (R25, R134): the sum of the bytes summed so far. -/
def runningChecksum (s : State) : Prop :=
  match s.st with
  | .hdrFmt => s.cks = 0
  | .hdrDid => s.cks = s.f_fmt
  | .hdrSid => s.cks = sum8 [s.f_fmt, s.f_did]
  | .hdrFnc => s.cks = sum8 [s.f_fmt, s.f_did, s.f_sid]
  | .hdrSiz => s.cks = sum8 [s.f_fmt, s.f_did, s.f_sid, s.f_fnc]
  | .hdrCks => s.cks = headerCks s.f_fmt s.f_did s.f_sid s.f_fnc s.f_siz
  | .txtBody | .txtEtx | .txtCks => s.cks = textCks (s.txt.toList.take s.cnt.toNat)
  | _ => True

/-- The states in which a text has been announced and not yet checked (R54 b). -/
def inText (st : St) : Prop := st = .txtStx ∨ st = .txtBody ∨ st = .txtEtx ∨ st = .txtCks

/-- The states in which a reply waits or is being sent (R29, R54 d). -/
def inReply (st : St) : Prop := st = .ackWait ∨ st = .replyHeaderSent ∨ st = .replyTextSent

/-- The invariant of every reachable state. -/
structure Inv (s : State) : Prop where
  /-- The parameters meet R7. -/
  params : s.cfg.wf = true
  /-- R22, R54 (a): fewer bytes than announced while the body comes in. -/
  bodyCount : s.st = .txtBody → s.cnt.toNat < s.f_siz.toNat
  /-- R22, R54 (a): all of them once it is in. -/
  bodyComplete : s.st = .txtEtx ∨ s.st = .txtCks → s.cnt = s.f_siz
  /-- R54 (b). -/
  textAnnounced : inText s.st → 1 ≤ s.f_siz.toNat
  /-- R54 (c). -/
  format : s.f_fmt = 0
  /-- R54 (d). -/
  replySize : inReply s.st → 1 ≤ s.r_siz.toNat ∧ s.r_siz.toNat ≤ 129
  /-- R54 (e). -/
  cursor : s.dir_cursor % 8 = 0
  /-- R54 (f). -/
  selectedUnit : ∀ u, s.selected = some u → u < s.cfg.nUnits
  /-- R54 (g). -/
  quiet : s.st = .idle ∨ s.st = .error → frameClear s
  /-- R134. -/
  running : runningChecksum s
  /-- One flag for each unit index (R31). -/
  wpTable : s.wp.length = s.cfg.nUnits
  /-- One name for each unit index (R32). -/
  nameTable : s.name.length = s.cfg.nUnits
  /-- The medium is in canonical form (R34). -/
  medium : Files.wf s.cfg.newImageFill s.files = true
  /-- One directory entry for each image, no name twice (R75). -/
  directory : legalListing s.files s.listing = true

/-- A medium and a listing that a machine can be launched with (R38: "its initial content is the launch state"). -/
def launchable (p : Params) (files : List File) (listing : List DirEntry) : Prop :=
  p.wf = true ∧ Files.wf p.newImageFill files = true ∧ legalListing files listing = true

end Sys2Proof.Machine
end

