-- ==== Sys2Proof/Certificates/Slice0/Obligations.lean ====
section
/-! DEFINITION. The statements for the provers. A statement about a dispatched function gives the whole next state: what
it does not name is unchanged. `reply R s` is the state with the reply `R` assembled (stated by `ReplyAssembly`). -/

open Sys2Proof Sys2Proof.Machine

/-! ## Encoding -/

/-- Words written out from R91 to R94, R105 and R106, most significant byte first on the wire. -/
def Obligations.DecodedWordsOfTheTable : Prop :=
  decodeTableWord 8 0x01 = some .soh ∧
  decodeTableWord 8 0x15 = some .nak ∧
  decodeTableWord 32 0x31313205 = some (.selF 0x31 0x32) ∧
  decodeTableWord 56 0x010031327702DC = some (.hdr 0x31 0x32 0x77 0x02 0xDC) ∧
  decodeTableWord 56 0x0101323177815C = some (.rhdr 0x32 0x31 0x77 0x81 0x5C) ∧
  decodeTableWord 40 0x0205000305 = some (.txt [0x05, 0x00] 0x05) ∧
  decodeTableWord 8 0x77 = some .read ∧
  decodeTableWord 8 0xE0 = some .img ∧
  decodeTableWord 8 0x4D = some .imgMount ∧
  decodeTableWord 8 0x0F = none ∧
  decodeTableWord 56 0x010231327702DC = none

/-- Decoding an encoded well-formed instruction gives it back, and leaves what follows it. -/
def Obligations.DecodeOfEncode : Prop :=
  ∀ (p : Params) (i : Instr) (rest : List Byte), p.wf = true → i.wf = true →
    decode p i.level i.textSize (encode p i ++ rest) = .ok (i, rest)

/-- Whatever decodes was encoded so: the decoder accepts no other bytes for an instruction. -/
def Obligations.EncodeOfDecode : Prop :=
  ∀ (p : Params) (lvl : Level) (size : Nat) (bytes rest : List Byte) (i : Instr),
    decode p lvl size bytes = .ok (i, rest) → i.level = lvl ∧ encode p i ++ rest = bytes

/-! ## The codec -/

/-- R134: the running sum of the five field bytes is the header checksum, that of a body its text checksum. -/
def Obligations.RunningSumIsTheChecksum : Prop :=
  (∀ fmt did sid fnc siz : Byte,
    [fmt, did, sid, fnc, siz].foldl accumulate 0 = headerCks fmt did sid fnc siz) ∧
  (∀ body : List Byte, body.foldl accumulate 0 = textCks body) ∧
  (∀ fmt did sid fnc siz : Byte, (headerCks fmt did sid fnc siz).toNat =
    (fmt.toNat + did.toNat + sid.toNat + fnc.toNat + siz.toNat) % 256) ∧
  (∀ body : List Byte, (textCks body).toNat = (body.map BitVec.toNat).sum % 256)

/-- R136: a header whose checksum byte was right, with one bit of a later byte flipped, is answered with `NAK`
and nothing is dispatched. (A flipped format byte is a framing violation, see `HeaderFieldRules`.) -/
def Obligations.CorruptedHeaderIsRefused : Prop :=
  ∀ (s : State) (did sid fnc siz : Byte) (k : Nat), k < 8 → (s.st = .idle ∨ s.st = .error) →
    let flip := fun b : Byte => b ^^^ BitVec.twoPow 8 k
    let c := headerCks 0x00 did sid fnc siz
    ∀ i ∈ [Instr.hdr (flip did) sid fnc siz c, .hdr did (flip sid) fnc siz c, .hdr did sid (flip fnc) siz c,
           .hdr did sid fnc (flip siz) c, .hdr did sid fnc siz (flip c)],
      ∃ t, exec i s = .next t ∧ t.st = .error ∧ t.err_prev = .hdrCks ∧ t.tx = s.tx ++ [0x15] ∧
        t.files = s.files ∧ t.wp = s.wp ∧ t.name = s.name ∧ t.selected = s.selected ∧
        t.dir_cursor = s.dir_cursor ∧ t.r_siz = s.r_siz ∧ t.rtxt = s.rtxt

/-- R136, text: one flipped bit of a body byte changes the sum. -/
def Obligations.CorruptedTextChangesTheSum : Prop :=
  ∀ (l r : List Byte) (b : Byte) (k : Nat), k < 8 →
    textCks (l ++ [b ^^^ BitVec.twoPow 8 k] ++ r) ≠ textCks (l ++ [b] ++ r)

/-! ## The step -/

/-- One step takes the next event. A byte that is a control character runs its instruction; any other byte is
given to the rule of the current state; without an event nothing changes (model's choice, log entry 6). -/
def Obligations.StepRunsTheNextEvent : Prop :=
  ∀ s : State,
    (s.rx = [] → step s = .next s) ∧
    (∀ b rest i, s.rx = .rxByte b :: rest → decodeCtl b = .ok i → step s = exec i { s with rx := rest }) ∧
    (∀ b rest e, s.rx = .rxByte b :: rest → decodeCtl b = .error e →
      step s = .next (receive b { s with rx := rest })) ∧
    (∀ rest, s.rx = .timeout :: rest → step s = .next (timeout { s with rx := rest })) ∧
    (∀ rest, s.rx = .hwReset :: rest → step s = .next (hwReset { s with rx := rest }))

/-- As many steps as a frame has bytes, over bytes that decode to it, do what the frame does. (The reply header
is the frame this device sends; that it is never accepted is `ReplyHeaderFrame`.) -/
def Obligations.StepsRunAFrame : Prop :=
  ∀ (s : State) (size : Nat) (bytes : List Byte) (i : Instr) (rest : List Event),
    decode s.cfg .frame size bytes = .ok (i, []) → (∀ d h f z c, i ≠ .rhdr d h f z c) →
    s.rx = bytes.map .rxByte ++ rest →
    Host.Core.run Sys2Proof.core bytes.length s = exec i { s with rx := rest }

/-- R161, R165: the step that receives a matching last checksum byte runs the requested function, then sends `ACK`
and waits for `EOT`; function 0xE0 runs the sub-operation that the first text byte names. -/
def Obligations.LastChecksumByteRunsTheFunction : Prop :=
  (∀ (s : State) (rest : List Event) (i : Instr),
    s.rx = .rxByte s.cks :: rest → (s.st = .txtCks ∨ (s.st = .hdrCks ∧ s.f_siz = 0)) →
    decodeFnc s.f_fnc = .ok i →
    ∃ t, exec i { s with rx := rest, lat_cks := s.cks } = .next t ∧
      step s = .next { t with tx := t.tx ++ [0x06], st := .ackWait }) ∧
  (∀ (s : State) (i : Instr), 1 ≤ s.f_siz.toNat → decodeImg s.cfg s.txt[0] = .ok i →
    exec .img s = exec i s)

/-- R150, row by row. -/
def Obligations.TransitionTable : Prop :=
  ∀ (s : State) (b : Byte) (rest : List Event), s.rx = .rxByte b :: rest →
    ∃ t, step s = .next t ∧ t.rx = rest ∧
      let goes := fun (st : St) (sent : List Byte) => t.st = st ∧ t.tx = s.tx ++ sent
      let violation := goes .error [] ∧ t.err_prev = s.st
      match s.st with
      | .idle => if b = 0x31 then goes .selDid [] else if b = 0x01 then goes .hdrFmt [] else violation
      | .selDid => goes .selSid []
      | .selSid => goes .selEnq []
      | .selEnq =>
        if b = 0x05 then
          if s.f_did ∈ s.cfg.unitIds then goes .hdrSoh [0x06] else goes .idle []
        else violation
      | .hdrSoh => if b = 0x01 then goes .hdrFmt [] else violation
      | .hdrFmt => if b = 0x00 then goes .hdrDid [] else violation
      | .hdrDid => goes .hdrSid []
      | .hdrSid => goes .hdrFnc []
      | .hdrFnc => goes .hdrSiz []
      | .hdrSiz => goes .hdrCks []
      | .hdrCks =>
        if b = s.cks then (if s.f_siz = 0 then goes .ackWait [0x06] else goes .txtStx [0x06])
        else goes .error [0x15]
      | .txtStx => if b = 0x02 then goes .txtBody [] else violation
      | .txtBody => if s.cnt + 1 = s.f_siz then goes .txtEtx [] else goes .txtBody []
      | .txtEtx => if b = 0x03 then goes .txtCks [] else violation
      | .txtCks => if b = s.cks then goes .ackWait [0x06] else goes .error [0x15]
      | .ackWait =>
        if b = 0x04 then goes .replyHeaderSent (encodeHeader 0x01 s.r_did s.r_sid s.r_fnc s.r_siz) else violation
      | .replyHeaderSent =>
        if b = 0x06 then goes .replyTextSent (encodeText (s.rtxt.toList.take s.r_siz.toNat)) else violation
      | .replyTextSent => if b = 0x06 then goes .idle [0x04] else violation
      | .error => if b = 0x31 then goes .selDid [] else if b = 0x01 then goes .hdrFmt [] else goes .error []

/-- R251: a byte that the state does not accept. The offending byte is consumed and recorded nowhere. In no other
case is there a violation: what else enters `S_ERROR` or writes `err_prev` is a checksum byte that differs, and in
`S_ERROR` itself a discarded byte changes nothing. -/
def Obligations.FramingViolationEffect : Prop :=
  ∀ (s : State) (b : Byte) (rest : List Event), s.rx = .rxByte b :: rest →
    let violates :=
      (s.st = .idle ∧ b ≠ 0x01 ∧ b ≠ 0x31) ∨ (s.st = .selEnq ∧ b ≠ 0x05) ∨ (s.st = .hdrSoh ∧ b ≠ 0x01) ∨
      (s.st = .hdrFmt ∧ b ≠ 0x00) ∨ (s.st = .txtStx ∧ b ≠ 0x02) ∨ (s.st = .txtEtx ∧ b ≠ 0x03) ∨
      (s.st = .ackWait ∧ b ≠ 0x04) ∨ (s.st = .replyHeaderSent ∧ b ≠ 0x06) ∨
      (s.st = .replyTextSent ∧ b ≠ 0x06)
    (violates →
      step s = .next
        { s with
          rx := rest, err_prev := s.st, st := .error
          f_fmt := 0, f_did := 0, f_sid := 0, f_fnc := 0, f_siz := 0, cks := 0, cnt := 0 }) ∧
    (¬ violates →
      let badChecksum := (s.st = .hdrCks ∨ s.st = .txtCks) ∧ b ≠ s.cks
      ∃ t, step s = .next t ∧
        (t.st = .error → badChecksum ∨ (s.st = .error ∧ t = { s with rx := rest })) ∧
        (¬ badChecksum → t.err_prev = s.err_prev))

/-- R252, R253: a checksum byte that differs from the running sum. -/
def Obligations.ChecksumFailureEffect : Prop :=
  ∀ (s : State) (b : Byte) (rest : List Event), s.rx = .rxByte b :: rest → b ≠ s.cks →
    (s.st = .hdrCks ∨ s.st = .txtCks) →
    step s = .next
      { s with
        rx := rest, lat_cks := b, tx := s.tx ++ [0x15], err_prev := s.st, st := .error
        f_fmt := 0, f_did := 0, f_sid := 0, f_fnc := 0, f_siz := 0, cks := 0, cnt := 0 }

/-! ## Control characters -/

/-- R151, R155, R169: the two start characters; a byte that is none of them is a framing violation (its effect is
`FramingViolationEffect`), but changes nothing in `S_ERROR`. -/
def Obligations.StartCharacters : Prop :=
  ∀ s : State,
    let clear := { s with f_fmt := 0, f_did := 0, f_sid := 0, f_fnc := 0, f_siz := 0, cks := 0, cnt := 0 }
    ((s.st = .idle ∨ s.st = .error ∨ s.st = .hdrSoh) → exec .soh s = .next { clear with st := .hdrFmt }) ∧
    ((s.st = .idle ∨ s.st = .error) → exec .sel s = .next { clear with st := .selDid }) ∧
    (∀ (b : Byte) (rest : List Event), s.rx = .rxByte b :: rest → b ≠ 0x01 →
      ((s.st = .idle ∧ b ≠ 0x31) ∨ s.st = .hdrSoh → step s = .next (framingViolation { s with rx := rest })) ∧
      (s.st = .error → b ≠ 0x31 → step s = .next { s with rx := rest }))

/-- R154: the enquiry that completes a select frame, and any other byte in its place. -/
def Obligations.EnquiryCompletesSelect : Prop :=
  ∀ s : State, s.st = .selEnq →
    (∀ u, s.cfg.unitIds[u]? = some s.f_did → (∀ v < u, s.cfg.unitIds[v]? ≠ some s.f_did) →
      exec .enq s = .next { s with selected := some u, tx := s.tx ++ [0x06], st := .hdrSoh }) ∧
    (s.f_did ∉ s.cfg.unitIds →
      exec .enq s = .next
        { s with
          st := .idle
          f_fmt := 0, f_did := 0, f_sid := 0, f_fnc := 0, f_siz := 0, cks := 0, cnt := 0 }) ∧
    (∀ b rest, s.rx = .rxByte b :: rest → b ≠ 0x05 → step s = .next (framingViolation { s with rx := rest }))

/-- R152, R153, R156 to R160: the field bytes of a select frame and of a header, whatever their values; the
format byte only when it is 0x00. -/
def Obligations.HeaderFieldRules : Prop :=
  ∀ (s : State) (b : Byte) (rest : List Event), s.rx = .rxByte b :: rest →
    (s.st = .selDid → step s = .next { s with rx := rest, f_did := b, lat_did := b, st := .selSid }) ∧
    (s.st = .selSid → step s = .next { s with rx := rest, f_sid := b, lat_sid := b, st := .selEnq }) ∧
    (s.st = .hdrFmt → b = 0x00 →
      step s = .next { s with rx := rest, f_fmt := b, cks := s.cks + b, st := .hdrDid }) ∧
    (s.st = .hdrFmt → b ≠ 0x00 → step s = .next (framingViolation { s with rx := rest })) ∧
    (s.st = .hdrDid →
      step s = .next { s with rx := rest, f_did := b, lat_did := b, cks := s.cks + b, st := .hdrSid }) ∧
    (s.st = .hdrSid →
      step s = .next { s with rx := rest, f_sid := b, lat_sid := b, cks := s.cks + b, st := .hdrFnc }) ∧
    (s.st = .hdrFnc →
      step s = .next { s with rx := rest, f_fnc := b, lat_fnc := b, cks := s.cks + b, st := .hdrSiz }) ∧
    (s.st = .hdrSiz →
      step s = .next { s with rx := rest, f_siz := b, lat_siz := b, cks := s.cks + b, st := .hdrCks })

/-- R161 where a text follows: decided by the size field, not by the function code. -/
def Obligations.HeaderAnnouncesText : Prop :=
  ∀ (s : State) (rest : List Event), s.rx = .rxByte s.cks :: rest → s.st = .hdrCks → s.f_siz ≠ 0 →
    step s = .next
      { s with rx := rest, lat_cks := s.cks, tx := s.tx ++ [0x06], cks := 0, cnt := 0, st := .txtStx }

/-- R162, R164: `STX` and `ETX` where they are awaited, and any other byte there. -/
def Obligations.TextDelimiters : Prop :=
  ∀ s : State,
    (s.st = .txtStx → exec .stx s = .next { s with cks := 0, cnt := 0, st := .txtBody }) ∧
    (s.st = .txtEtx → exec .etx s = .next { s with st := .txtCks }) ∧
    (∀ b rest, s.rx = .rxByte b :: rest → (s.st = .txtStx ∧ b ≠ 0x02) ∨ (s.st = .txtEtx ∧ b ≠ 0x03) →
      step s = .next (framingViolation { s with rx := rest }))

/-- R163: the body is counted, no value ends it early. -/
def Obligations.TextBodyIsCounted : Prop :=
  ∀ (s : State) (b : Byte) (rest : List Event), s.rx = .rxByte b :: rest → s.st = .txtBody →
    s.cnt.toNat < s.f_siz.toNat →
    ∃ t, step s = .next t ∧
      t = { s with rx := rest, txt := t.txt, cks := s.cks + b, cnt := t.cnt, st := t.st } ∧
      t.cnt.toNat = s.cnt.toNat + 1 ∧
      (∀ i : Fin 255, t.txt[i] = if i.val = s.cnt.toNat then b else s.txt[i]) ∧
      t.st = if s.cnt.toNat + 1 = s.f_siz.toNat then .txtEtx else .txtBody

/-- R166 to R168: the reply sequence, and any other byte in it. -/
def Obligations.ReplySequence : Prop :=
  ∀ s : State,
    (s.st = .ackWait →
      exec .eot s = .next
        { s with
          st := .replyHeaderSent
          tx := s.tx ++ [0x01, 0x01, s.r_did, s.r_sid, s.r_fnc, s.r_siz,
                         headerCks 0x01 s.r_did s.r_sid s.r_fnc s.r_siz] }) ∧
    (s.st = .replyHeaderSent →
      let body := s.rtxt.toList.take s.r_siz.toNat
      exec .ack s = .next
        { s with st := .replyTextSent, tx := s.tx ++ [0x02] ++ body ++ [0x03, textCks body] }) ∧
    (s.st = .replyTextSent →
      exec .ack s = .next
        { s with
          st := .idle, tx := s.tx ++ [0x04]
          f_fmt := 0, f_did := 0, f_sid := 0, f_fnc := 0, f_siz := 0, cks := 0, cnt := 0 }) ∧
    (∀ b rest, s.rx = .rxByte b :: rest →
      (s.st = .ackWait ∧ b ≠ 0x04) ∨ (s.st = .replyHeaderSent ∧ b ≠ 0x06) ∨ (s.st = .replyTextSent ∧ b ≠ 0x06) →
      step s = .next (framingViolation { s with rx := rest }))

/-- R91, R140, R150, R285: in no state is `NAK` accepted as such. All 19 states: where any byte is taken it is data like
any other (an id, a code, a size, a body byte, a checksum byte that is compared), in `S_ERROR` it is discarded, and
in each of the nine other states it is a framing violation. -/
def Obligations.NakIsNeverAcceptedAsSuch : Prop :=
  ∀ s : State,
    let failed := fun t : State =>
      { t with
        err_prev := s.st, st := .error
        f_fmt := 0, f_did := 0, f_sid := 0, f_fnc := 0, f_siz := 0, cks := 0, cnt := 0 }
    match s.st with
    | .selDid => exec .nak s = .next { s with f_did := 0x15, lat_did := 0x15, st := .selSid }
    | .selSid => exec .nak s = .next { s with f_sid := 0x15, lat_sid := 0x15, st := .selEnq }
    | .hdrDid => exec .nak s = .next { s with f_did := 0x15, lat_did := 0x15, cks := s.cks + 0x15, st := .hdrSid }
    | .hdrSid => exec .nak s = .next { s with f_sid := 0x15, lat_sid := 0x15, cks := s.cks + 0x15, st := .hdrFnc }
    | .hdrFnc => exec .nak s = .next { s with f_fnc := 0x15, lat_fnc := 0x15, cks := s.cks + 0x15, st := .hdrSiz }
    | .hdrSiz => exec .nak s = .next { s with f_siz := 0x15, lat_siz := 0x15, cks := s.cks + 0x15, st := .hdrCks }
    | .hdrCks =>
      let h := { s with lat_cks := 0x15 }
      (s.cks ≠ 0x15 → exec .nak s = .next (failed { h with tx := s.tx ++ [0x15] })) ∧
      (s.cks = 0x15 → s.f_siz ≠ 0 →
        exec .nak s = .next { h with tx := s.tx ++ [0x06], cks := 0, cnt := 0, st := .txtStx }) ∧
      (s.cks = 0x15 → s.f_siz = 0 →
        exec .nak s = .next { dispatch h with tx := s.tx ++ [0x06], st := .ackWait })
    | .txtBody =>
      exec .nak s = .next
        { s with
          txt := s.txt.setIfInBounds s.cnt.toNat 0x15, cks := s.cks + 0x15, cnt := s.cnt + 1
          st := if s.cnt + 1 = s.f_siz then .txtEtx else .txtBody }
    | .txtCks =>
      let h := { s with lat_cks := 0x15 }
      (s.cks ≠ 0x15 → exec .nak s = .next (failed { h with tx := s.tx ++ [0x15] })) ∧
      (s.cks = 0x15 → exec .nak s = .next { dispatch h with tx := s.tx ++ [0x06], st := .ackWait })
    | .error => exec .nak s = .next s
    | .idle | .selEnq | .hdrSoh | .hdrFmt | .txtStx | .txtEtx | .ackWait | .replyHeaderSent | .replyTextSent =>
      exec .nak s = .next (failed s)

/-! ## Frames -/

/-- R92, R151 to R154: a select frame from a state where a frame may start. -/
def Obligations.SelectFrameReceived : Prop :=
  ∀ (s : State) (did sid : Byte), (s.st = .idle ∨ s.st = .error) →
    (∀ u, unitIndex s.cfg did = some u →
      exec (.selF did sid) s = .next
        { s with
          st := .hdrSoh, selected := some u, tx := s.tx ++ [0x06], lat_did := did, lat_sid := sid
          f_fmt := 0, f_did := did, f_sid := sid, f_fnc := 0, f_siz := 0, cks := 0, cnt := 0 }) ∧
    (unitIndex s.cfg did = none →
      exec (.selF did sid) s = .next
        { s with
          st := .idle, lat_did := did, lat_sid := sid
          f_fmt := 0, f_did := 0, f_sid := 0, f_fnc := 0, f_siz := 0, cks := 0, cnt := 0 })

/-- R93, R155 to R161: a request header from a state where a frame may start, or after an acknowledged select
frame: with a text to follow, without one, or with a wrong checksum. -/
def Obligations.HeaderFrameReceived : Prop :=
  ∀ (s : State) (did sid fnc siz c : Byte), (s.st = .idle ∨ s.st = .error ∨ s.st = .hdrSoh) →
    let h :=
      { s with
        f_fmt := 0, f_did := did, f_sid := sid, f_fnc := fnc, f_siz := siz, cnt := 0
        cks := headerCks 0x00 did sid fnc siz
        lat_did := did, lat_sid := sid, lat_fnc := fnc, lat_siz := siz, lat_cks := c }
    (c = headerCks 0x00 did sid fnc siz → siz ≠ 0 →
      exec (.hdr did sid fnc siz c) s = .next { h with cks := 0, tx := s.tx ++ [0x06], st := .txtStx }) ∧
    (c = headerCks 0x00 did sid fnc siz → siz = 0 →
      ∃ t, t = dispatch { h with st := .hdrCks } ∧
        exec (.hdr did sid fnc siz c) s = .next { t with tx := s.tx ++ [0x06], st := .ackWait }) ∧
    (c ≠ headerCks 0x00 did sid fnc siz →
      exec (.hdr did sid fnc siz c) s = .next
        { h with
          f_did := 0, f_sid := 0, f_fnc := 0, f_siz := 0, cks := 0
          tx := s.tx ++ [0x15], err_prev := .hdrCks, st := .error })

/-- R94, R162 to R165: a text of the announced size: with its checksum right the request is dispatched on exactly
the body, with it wrong nothing is. -/
def Obligations.TextFrameReceived : Prop :=
  ∀ (s : State) (body : List Byte) (c : Byte), s.st = .txtStx → body.length = s.f_siz.toNat →
    1 ≤ body.length →
    ∃ h, requestText h = body ∧
      h = { s with st := .txtCks, txt := h.txt, cnt := s.f_siz, cks := textCks body, lat_cks := c } ∧
      (c = textCks body →
        exec (.txt body c) s = .next { dispatch h with tx := s.tx ++ [0x06], st := .ackWait }) ∧
      (c ≠ textCks body →
        exec (.txt body c) s = .next
          { h with
            f_fmt := 0, f_did := 0, f_sid := 0, f_fnc := 0, f_siz := 0, cks := 0, cnt := 0
            tx := s.tx ++ [0x15], err_prev := .txtCks, st := .error })

/-- R102, R156, R166: the header of the pending reply is sent where it is due; received, a reply header is never
accepted: its second byte is a framing violation, and what follows is discarded in `S_ERROR` when no byte of it is a
start character. -/
def Obligations.ReplyHeaderFrame : Prop :=
  (∀ s : State, s.st = .ackWait →
    exec (.rhdr s.r_did s.r_sid s.r_fnc s.r_siz (headerCks 0x01 s.r_did s.r_sid s.r_fnc s.r_siz)) s = .next
      { s with
        st := .replyHeaderSent
        tx := s.tx ++ [0x01, 0x01, s.r_did, s.r_sid, s.r_fnc, s.r_siz,
                       headerCks 0x01 s.r_did s.r_sid s.r_fnc s.r_siz] }) ∧
  (∀ (s : State) (did sid fnc siz c : Byte), (s.st = .idle ∨ s.st = .error ∨ s.st = .hdrSoh) →
    (∀ b ∈ [did, sid, fnc, siz, c], b ≠ 0x01 ∧ b ≠ 0x31) →
    exec (.rhdr did sid fnc siz c) s = .next
      { s with
        err_prev := .hdrFmt, st := .error
        f_fmt := 0, f_did := 0, f_sid := 0, f_fnc := 0, f_siz := 0, cks := 0, cnt := 0 })

/-! ## Dispatched functions -/

/-- R201: reply assembly. -/
def Obligations.ReplyAssembly : Prop :=
  ∀ (s : State) (R : List Byte), 1 ≤ R.length → R.length ≤ 129 →
    ∃ t, reply R s = t ∧
      t = { s with r_did := s.f_sid, r_sid := s.f_did, r_fnc := s.f_fnc, r_siz := t.r_siz, rtxt := t.rtxt } ∧
      t.r_siz.toNat = R.length ∧ t.rtxt.toList.take t.r_siz.toNat = R ∧
      (∀ i : Fin 129, R.length ≤ i.val → t.rtxt[i] = s.rtxt[i])

/-- R203. -/
def Obligations.ResetFunction : Prop :=
  ∀ s : State, s.f_siz = 0 → exec .reset s = .next (reply [0x00] { s with selected := none, dir_cursor := 0 })

/-- R204. -/
def Obligations.SelectFunction : Prop :=
  ∀ s : State, s.f_siz = 0 →
    (∀ u, unitIndex s.cfg s.f_did = some u → exec .select s = .next (reply [0x00] { s with selected := some u })) ∧
    (unitIndex s.cfg s.f_did = none → exec .select s = .next (reply [0xFC] s))

/-- R205, R70, R63: the sector's bytes after a status byte, or one status byte. -/
def Obligations.ReadFunction : Prop :=
  ∀ (s : State) (u : Nat), s.f_siz = 2 → unitIndex s.cfg s.f_did = some u →
    let n := s.txt[0].toNat + 256 * s.txt[1].toNat
    (2560 ≤ n → exec .read s = .next (reply [0xFA] s)) ∧
    (n < 2560 → Files.find s.files (unitName s u) = none → exec .read s = .next (reply [0xFA] s)) ∧
    (n < 2560 → ∀ m, Files.find s.files (unitName s u) = some m →
      ∃ d : List Byte, d.length = 128 ∧
        (∀ i < 128, d[i]? = some (Memory.read s.cfg.newImageFill m (128 * n + i))) ∧
        exec .read s = .next (reply (0x00 :: d) s))

/-- R206, R71, R72: write-protect first, then the range, then presence, then the medium's answer. -/
def Obligations.WriteFunction : Prop :=
  ∀ (s : State) (u : Nat), s.f_siz = 130 → unitIndex s.cfg s.f_did = some u →
    let n := s.txt[0].toNat + 256 * s.txt[1].toNat
    let stored := fun (m : Memory) (v : List Byte) =>
      { s with
        env := s.env.tail, drawn := s.drawn + 1
        files := Files.put s.files (unitName s u) (m.writeList s.cfg.newImageFill (128 * n) v) }
    (unitWp s u = true → exec .write s = .next (reply [0xFD] s)) ∧
    (unitWp s u = false → 2560 ≤ n → exec .write s = .next (reply [0xFB] s)) ∧
    (unitWp s u = false → n < 2560 → Files.find s.files (unitName s u) = none →
      exec .write s = .next (reply [0xFB] s)) ∧
    (unitWp s u = false → n < 2560 → ∀ m, Files.find s.files (unitName s u) = some m →
      ((nextDraw s).fails = false →
        exec .write s = .next (reply [0x00] (stored m ((s.txt.toList.drop 2).take 128)))) ∧
      ((nextDraw s).fails = true →
        exec .write s = .next (reply [0xFB] (stored m (nextDraw s).left.toList))))

/-- R207. -/
def Obligations.FlushFunction : Prop :=
  ∀ s : State, s.f_siz = 0 → exec .flush s = .next (reply [0x00] s)

/-- R209: a size that the function does not expect (R100): one status byte, nothing else written. -/
def Obligations.SizeMismatch : Prop :=
  ∀ (s : State) (i : Instr) (size : Nat),
    (i, size) ∈ [(Instr.reset, 0), (.select, 0), (.read, 2), (.write, 130), (.flush, 0), (.imgDir, 1),
                 (.imgMount, 13), (.imgCreate, 1), (.imgProtect, 1), (.imgDefaults, 1)] →
    s.f_siz.toNat ≠ size → exec i s = .next (reply [s.cfg.stMalformed] s)

/-- R211, R202 test 3: a well-sized request that needs a unit, for an id that is none. -/
def Obligations.UnrecognisedUnit : Prop :=
  ∀ (s : State) (i : Instr) (size : Nat),
    (i, size) ∈ [(Instr.select, 0), (.read, 2), (.write, 130), (.imgMount, 13), (.imgCreate, 1),
                 (.imgProtect, 1)] →
    s.f_siz.toNat = size → s.f_did ∉ s.cfg.unitIds → exec i s = .next (reply [0xFC] s)

/-- R208, R110: every function code but the six, whatever size and text. -/
def Obligations.UnknownFunctionCode : Prop :=
  ∀ s : State, s.f_fnc ∉ [(0x0D : Byte), 0x0E, 0x77, 0x78, 0x79, 0xE0] →
    dispatch s = reply [s.cfg.stMalformed] s

/-- R230, R236: no text, an unknown sub-operation, and the five known ones. -/
def Obligations.ImageManagementDecoding : Prop :=
  ∀ s : State,
    (s.f_siz = 0 → exec .img s = .next (reply [s.cfg.stMalformed] s)) ∧
    (s.f_siz ≠ 0 → s.txt[0] ∉ s.cfg.imgCodes → exec .img s = .next (reply [s.cfg.stMalformed] s)) ∧
    (s.f_siz ≠ 0 → s.cfg.wf = true →
      (s.txt[0] = s.cfg.imgDir → ∃ t, exec .img s = .next t ∧ exec .imgDir s = .next t) ∧
      (s.txt[0] = s.cfg.imgMount → ∃ t, exec .img s = .next t ∧ exec .imgMount s = .next t) ∧
      (s.txt[0] = s.cfg.imgCreate → ∃ t, exec .img s = .next t ∧ exec .imgCreate s = .next t) ∧
      (s.txt[0] = s.cfg.imgProtect → ∃ t, exec .img s = .next t ∧ exec .imgProtect s = .next t) ∧
      (s.txt[0] = s.cfg.imgDefaults → ∃ t, exec .img s = .next t ∧ exec .imgDefaults s = .next t))

/-- R231: a page of at most 8 entries from the cursor on; a full page moves the cursor, any other rewinds it. -/
def Obligations.DirectoryPage : Prop :=
  ∀ s : State, s.f_siz = 1 →
    let es := (s.listing.drop s.dir_cursor).take 8
    exec .imgDir s = .next
      (reply (0x00 :: es.flatMap fun e => e.name.toList ++ e.attr.toList)
        { s with dir_cursor := if es.length = 8 then s.dir_cursor + 8 else 0 })

/-- R232. -/
def Obligations.MountFunction : Prop :=
  ∀ (s : State) (u : Nat), s.f_siz = 13 → unitIndex s.cfg s.f_did = some u →
    ∃ n : Name, (∀ i : Fin 12, n[i] = s.txt[i.val + 1]) ∧
      exec .imgMount s = .next (reply [0x00] { s with name := s.name.set u n })

/-- R233, R74, R75: an image that exists is never overwritten; a new one holds `NEW_IMAGE_FILL` everywhere. -/
def Obligations.CreateFunction : Prop :=
  ∀ (s : State) (u : Nat), s.f_siz = 1 → unitIndex s.cfg s.f_did = some u →
    Files.wf s.cfg.newImageFill s.files = true → legalListing s.files s.listing = true →
    ((Files.find s.files (unitName s u)).isSome → exec .imgCreate s = .next (reply [0xFB] s)) ∧
    (Files.find s.files (unitName s u) = none → (nextDraw s).fails = true →
      exec .imgCreate s = .next (reply [0xFB] { s with env := s.env.tail, drawn := s.drawn + 1 })) ∧
    (Files.find s.files (unitName s u) = none → (nextDraw s).fails = false →
      ∃ t, exec .imgCreate s = .next (reply [0x00] t) ∧
        t = { s with
              env := s.env.tail, drawn := s.drawn + 1, files := t.files, listing := t.listing, dir_cursor := 0 } ∧
        (∃ m, Files.find t.files (unitName s u) = some m ∧ ∀ a, Memory.read s.cfg.newImageFill m a = s.cfg.newImageFill) ∧
        (∀ x, x ≠ unitName s u → Files.find t.files x = Files.find s.files x) ∧
        legalListing t.files t.listing = true)

/-- R234. -/
def Obligations.ToggleProtect : Prop :=
  ∀ (s : State) (u : Nat), s.f_siz = 1 → unitIndex s.cfg s.f_did = some u → u < s.wp.length →
    ∃ t, exec .imgProtect s = .next (reply [0x00] t) ∧ t = { s with wp := t.wp } ∧
      (∀ v, unitWp t v = if v = u then !(unitWp s u) else unitWp s v)

/-- R235. -/
def Obligations.DefaultsFunction : Prop :=
  ∀ s : State, s.f_siz = 1 →
    exec .imgDefaults s = .next
      (reply [0x00]
        { s with
          name := s.cfg.units.map (·.defaultName), wp := s.cfg.units.map (·.defaultWp), dir_cursor := 0 })

/-- R210: what no dispatched function writes, and that none sends a byte. -/
def Obligations.DispatchClosedEffects : Prop :=
  ∀ (i : Instr) (s t : State), (i.level = .fnc ∨ i.level = .img) → exec i s = .next t →
    t = { s with
          r_did := t.r_did, r_sid := t.r_sid, r_fnc := t.r_fnc, r_siz := t.r_siz, rtxt := t.rtxt
          selected := t.selected, wp := t.wp, name := t.name, dir_cursor := t.dir_cursor
          files := t.files, listing := t.listing, env := t.env, drawn := t.drawn } ∧
    t.r_did = s.f_sid ∧ t.r_sid = s.f_did ∧ t.r_fnc = s.f_fnc ∧ 1 ≤ t.r_siz.toNat ∧ t.r_siz.toNat ≤ 129

/-! ## The medium -/

/-- R66, R72, R210: `WRITE` changes nothing but the 128 bytes at the sector it addresses (not even those when it
refuses), the reply registers and the medium's answers used up; no image appears or disappears. -/
def Obligations.WriteFrame : Prop :=
  ∀ s t : State, Files.wf s.cfg.newImageFill s.files = true → exec .write s = .next t →
    t = { s with
          r_did := s.f_sid, r_sid := s.f_did, r_fnc := s.f_fnc, r_siz := t.r_siz, rtxt := t.rtxt
          files := t.files, env := t.env, drawn := t.drawn } ∧
    (∀ x, (Files.find t.files x).isSome = (Files.find s.files x).isSome) ∧
    (∀ u, targetUnit s = some u →
      ∀ x m m', Files.find s.files x = some m → Files.find t.files x = some m' →
        ∀ a, ¬ (x = unitName s u ∧ 128 * sectorNumber (requestText s) ≤ a ∧
                a < 128 * sectorNumber (requestText s) + 128) →
          Memory.read s.cfg.newImageFill m' a = Memory.read s.cfg.newImageFill m a) ∧
    (∀ u, targetUnit s = some u → unitWp s u = true → t.files = s.files) ∧
    (2560 ≤ sectorNumber (requestText s) → t.files = s.files) ∧
    (s.f_siz ≠ 130 → t.files = s.files) ∧
    (targetUnit s = none → t.files = s.files)

/-- R77: what a completed write stored is what a later read of that sector returns, through any unit of the same
parameters whose image has that sector as the write left it. (That nothing but a write to that sector changes it is
`WriteFrame` and `MediumChangesOnlyBy`, that only mount and defaults lead the unit elsewhere `DriveTableChangesOnlyBy`.) -/
def Obligations.ReadReturnsWhatWasWritten : Prop :=
  ∀ (s : State) (u : Nat) (m : Memory), Files.wf s.cfg.newImageFill s.files = true →
    s.f_siz = 130 → targetUnit s = some u → unitWp s u = false →
    let n := s.txt[0].toNat + 256 * s.txt[1].toNat
    n < 2560 → imageOf s u = some m → (nextDraw s).fails = false →
    ∃ t m₁, exec .write s = .next t ∧ pendingText t = [0x00] ∧ imageOf t u = some m₁ ∧
      ∀ (r : State) (v : Nat) (m₂ : Memory), r.cfg = s.cfg → r.f_siz = 2 → targetUnit r = some v →
        imageOf r v = some m₂ → r.txt[0] = s.txt[0] → r.txt[1] = s.txt[1] →
        (∀ i < 128, Memory.read s.cfg.newImageFill m₂ (128 * n + i) =
          Memory.read s.cfg.newImageFill m₁ (128 * n + i)) →
        exec .read r = .next (reply (0x00 :: (s.txt.toList.drop 2).take 128) r)

/-- R67: writing the same 128 bytes twice leaves the medium as writing them once (the two writes may be answered by
different free values of the medium, as long as both succeed). -/
def Obligations.WriteIsIdempotent : Prop :=
  ∀ (s t w : State) (u : Nat) (env : List Draw) (drawn : Nat), Files.wf s.cfg.newImageFill s.files = true →
    targetUnit s = some u → unitWp s u = false → (nextDraw s).fails = false →
    exec .write s = .next t →
    let r := { t with env := env, drawn := drawn }
    (nextDraw r).fails = false → exec .write r = .next w → w.files = t.files

/-- R82: a well-sized write to a protected unit answers 0xFD and leaves the medium alone, whatever else is wrong
with it. -/
def Obligations.ProtectionLaw : Prop :=
  ∀ (s : State) (u : Nat), s.f_siz = 130 → targetUnit s = some u → unitWp s u = true →
    ∃ t, exec .write s = .next t ∧ t.files = s.files ∧ pendingText t = [0xFD] ∧ t.drawn = s.drawn

/-- R212: sector numbers from 2560 on. The whole next state: nothing but the reply registers is written. -/
def Obligations.OutOfRangeLaw : Prop :=
  ∀ (s : State) (u : Nat), targetUnit s = some u → 2560 ≤ s.txt[0].toNat + 256 * s.txt[1].toNat →
    (s.f_siz = 2 → exec .read s = .next (reply [0xFA] s)) ∧
    (s.f_siz = 130 → unitWp s u = false → exec .write s = .next (reply [0xFB] s)) ∧
    (s.f_siz = 130 → unitWp s u = true → exec .write s = .next (reply [0xFD] s))

/-- R237: page `j` of a listing holds entries `8j` to `8j + 7` as far as there are any; the `m / 8 + 1` pages hold
every entry exactly once, in order; the last is short and rewinds. Between the pages anything may happen that leaves
the cursor and the listing, as the six functions named do. -/
def Obligations.PagingLaw : Prop :=
  ∀ (S T : Nat → State) (L : List DirEntry),
    (∀ j, exec .imgDir (S j) = .next (T j)) → (∀ j, (S j).f_siz = 1) → (∀ j, (S j).listing = L) →
    (S 0).dir_cursor = 0 → (∀ j, (S (j + 1)).dir_cursor = (T j).dir_cursor) →
    (∀ j ≤ L.length / 8, pendingText (T j) = 0x00 :: ((L.drop (8 * j)).take 8).flatMap entryBytes) ∧
    ((List.range (L.length / 8 + 1)).flatMap fun j => (pendingText (T j)).tail) = L.flatMap entryBytes ∧
    (T (L.length / 8)).dir_cursor = 0 ∧ (pendingText (T (L.length / 8))).length < 129 ∧
    (∀ (i : Instr) (s t : State), i ∈ [Instr.select, .read, .write, .flush, .imgMount, .imgProtect] →
      exec i s = .next t → t.dir_cursor = s.dir_cursor ∧ t.listing = s.listing)

/-- R291, R211: `selected` gates nothing: no function's result depends on it but `selected` itself. -/
def Obligations.SelectionGatesNothing : Prop :=
  ∀ (i : Instr) (s t : State) (x : Option Nat), (i.level = .fnc ∨ i.level = .img) → exec i s = .next t →
    ∃ y, exec i { s with selected := x } = .next { t with selected := y }

/-! ## Whole-machine rules -/

/-- R172: every state and every event has a next state, and so has every instruction in every state. -/
def Obligations.EveryStepHasANextState : Prop :=
  (∀ s : State, ∃ t, step s = .next t) ∧ (∀ (i : Instr) (s : State), ∃ t, exec i s = .next t)

/-- R54 and the canonical forms, kept by every step from every state that has them. -/
def Obligations.StepKeepsTheInvariant : Prop :=
  ∀ s t : State, Inv s → step s = .next t → Inv t

/-- The invariant after power-on, for all parameters that R7 allows and every medium; and for `State.reset`. -/
def Obligations.InvariantAfterPowerOn : Prop :=
  (∀ p files listing, launchable p files listing → Inv (State.resetWith p files listing)) ∧ Inv State.reset

/-- R280, R282, R38: `HwReset` in any state. That the text buffers become zero and that the log of sent bytes is
kept are the model's choices, which R38 allows (log entries 7 and 8). -/
def Obligations.HwResetEffect : Prop :=
  ∀ (s : State) (rest : List Event), s.rx = .hwReset :: rest →
    ∃ t, step s = .next t ∧ t.st = .idle ∧ frameClear t ∧
      t.lat_did = 0 ∧ t.lat_sid = 0 ∧ t.lat_fnc = 0 ∧ t.lat_siz = 0 ∧ t.lat_cks = 0 ∧ t.err_prev = .idle ∧
      t.r_did = 0 ∧ t.r_sid = 0 ∧ t.r_fnc = 0 ∧ t.r_siz = 0 ∧ t.selected = none ∧ t.dir_cursor = 0 ∧
      t.wp = s.cfg.units.map (·.defaultWp) ∧ t.name = s.cfg.units.map (·.defaultName) ∧
      t.files = s.files ∧ t.listing = s.listing ∧ t.tx = s.tx ∧ t.cfg = s.cfg ∧ t.rx = rest

/-- R170: `Timeout` outside `S_IDLE` where it exists. -/
def Obligations.TimeoutEffect : Prop :=
  ∀ (s : State) (rest : List Event), s.rx = .timeout :: rest → s.cfg.timeoutEnabled = true → s.st ≠ .idle →
    step s = .next
      { s with
        rx := rest, st := .idle
        f_fmt := 0, f_did := 0, f_sid := 0, f_fnc := 0, f_siz := 0, cks := 0, cnt := 0 }

/-- R52: what was sent stays sent, in order; R37: the parameters never change. (That `HwReset` keeps the log is the
model's choice, log entry 8.) -/
def Obligations.SentBytesAndParametersStay : Prop :=
  ∀ s t : State, step s = .next t → s.tx <+: t.tx ∧ t.cfg = s.cfg

/-- R27: each latest-field register takes every byte of its kind, matching or not, and nothing but `HwReset` changes
it otherwise. -/
def Obligations.LatestFields : Prop :=
  ∀ s t : State, step s = .next t →
    (∀ b rest, s.rx = .rxByte b :: rest →
      t.lat_did = (if s.st = .selDid ∨ s.st = .hdrDid then b else s.lat_did) ∧
      t.lat_sid = (if s.st = .selSid ∨ s.st = .hdrSid then b else s.lat_sid) ∧
      t.lat_fnc = (if s.st = .hdrFnc then b else s.lat_fnc) ∧
      t.lat_siz = (if s.st = .hdrSiz then b else s.lat_siz) ∧
      t.lat_cks = (if s.st = .hdrCks ∨ s.st = .txtCks then b else s.lat_cks)) ∧
    (∀ rest, s.rx = .timeout :: rest →
      t.lat_did = s.lat_did ∧ t.lat_sid = s.lat_sid ∧ t.lat_fnc = s.lat_fnc ∧ t.lat_siz = s.lat_siz ∧
      t.lat_cks = s.lat_cks) ∧
    (∀ rest, s.rx = .hwReset :: rest →
      t.lat_did = 0 ∧ t.lat_sid = 0 ∧ t.lat_fnc = 0 ∧ t.lat_siz = 0 ∧ t.lat_cks = 0)

/-- R28: `err_prev` is written by exceptions only, that is by the steps that enter `S_ERROR`, and then it is the
state the step was taken in; `HwReset` clears it. -/
def Obligations.ErrPrevIsWrittenByExceptionsOnly : Prop :=
  ∀ s t : State, step s = .next t →
    (∀ b rest, s.rx = .rxByte b :: rest →
      t.err_prev = if t.st = .error ∧ s.st ≠ .error then s.st else s.err_prev) ∧
    (∀ rest, s.rx = .timeout :: rest → t.err_prev = s.err_prev) ∧
    (∀ rest, s.rx = .hwReset :: rest → t.err_prev = .idle)

/-- R30: a step that changes `selected` is `HwReset`, the enquiry of a select frame, or the last checksum byte of a
`RESET` or `SELECT` request. -/
def Obligations.SelectedChangesOnlyBy : Prop :=
  ∀ s t : State, step s = .next t → t.selected ≠ s.selected →
    (∃ rest, s.rx = .hwReset :: rest) ∨
    (∃ rest, s.rx = .rxByte 0x05 :: rest ∧ s.st = .selEnq) ∨
    (∃ rest, s.rx = .rxByte s.cks :: rest ∧ (s.st = .hdrCks ∨ s.st = .txtCks) ∧ s.f_siz = 0 ∧
      (s.f_fnc = 0x0D ∨ s.f_fnc = 0x0E))

/-- R31, R32: a step that changes a write-protect flag or an image name is `HwReset` or the last checksum byte of an
image-management request: toggle-protect or defaults for a flag, mount or defaults for a name. -/
def Obligations.DriveTableChangesOnlyBy : Prop :=
  ∀ s t : State, step s = .next t →
    (t.wp ≠ s.wp → (∃ rest, s.rx = .hwReset :: rest) ∨
      (∃ rest, s.rx = .rxByte s.cks :: rest ∧ s.st = .txtCks ∧ s.f_fnc = 0xE0 ∧ s.f_siz = 1 ∧
        (s.txt[0] = s.cfg.imgProtect ∨ s.txt[0] = s.cfg.imgDefaults))) ∧
    (t.name ≠ s.name → (∃ rest, s.rx = .hwReset :: rest) ∨
      (∃ rest, s.rx = .rxByte s.cks :: rest ∧ s.st = .txtCks ∧ s.f_fnc = 0xE0 ∧
        ((s.f_siz = 13 ∧ s.txt[0] = s.cfg.imgMount) ∨ (s.f_siz = 1 ∧ s.txt[0] = s.cfg.imgDefaults))))

/-- R67: the medium changes only in the step that receives the last checksum byte of a `WRITE` or an `IMG.CREATE`;
the listing only in the latter. -/
def Obligations.MediumChangesOnlyBy : Prop :=
  ∀ s t : State, step s = .next t →
    (t.files ≠ s.files →
      (∃ rest, s.rx = .rxByte s.cks :: rest) ∧ s.st = .txtCks ∧
        ((s.f_fnc = 0x78 ∧ s.f_siz = 130) ∨ (s.f_fnc = 0xE0 ∧ s.f_siz = 1 ∧ s.txt[0] = s.cfg.imgCreate))) ∧
    (t.listing ≠ s.listing →
      (∃ rest, s.rx = .rxByte s.cks :: rest) ∧ s.st = .txtCks ∧ s.f_fnc = 0xE0 ∧ s.f_siz = 1 ∧
        s.txt[0] = s.cfg.imgCreate)

/-- R174: the complete exchange. From `S_IDLE`, with a select frame for one of the units before it or without,
whatever the function, the ids and the text, the host's bytes are answered with the acknowledgements, a well-formed
reply header, a well-formed reply text of 1 to 129 bytes and `EOT`, and the machine is back in `S_IDLE` with a clear
frame. (The two `NAK`s are `HeaderFrameReceived` and `TextFrameReceived`.) -/
def Obligations.CompleteExchange : Prop :=
  ∀ (s : State) (poll : Bool) (did sid fnc : Byte) (body : List Byte) (rest : List Event),
    s.st = .idle → body.length ≤ 255 → (poll = true → did ∈ s.cfg.unitIds) →
    let siz := BitVec.ofNat 8 body.length
    let host :=
      (if poll then [0x31, did, sid, 0x05] else []) ++
        [0x01, 0x00, did, sid, fnc, siz, headerCks 0x00 did sid fnc siz] ++
        (if body = [] then [] else [0x02] ++ body ++ [0x03, textCks body]) ++ [0x04, 0x06, 0x06]
    s.rx = host.map .rxByte ++ rest →
    ∃ (t : State) (R : List Byte), 1 ≤ R.length ∧ R.length ≤ 129 ∧
      Host.Core.run Sys2Proof.core host.length s = .next t ∧
      t.st = .idle ∧ frameClear t ∧ t.rx = rest ∧ t.err_prev = s.err_prev ∧
      t.tx = s.tx ++ (if poll then [0x06] else []) ++ [0x06] ++ (if body = [] then [] else [0x06]) ++
        encodeHeader 0x01 sid did fnc (BitVec.ofNat 8 R.length) ++ encodeText R ++ [0x04]

/-- R292, R69: two units mounted on one name are one image, while each keeps its own flag: what `u` refuses because
it is protected, `v` stores where `u` reads it. -/
def Obligations.TwoUnitsOnOneImage : Prop :=
  ∀ (s : State) (u v : Nat), unitName s u = unitName s v → imageOf s u = imageOf s v ∧
    (s.f_siz = 130 → unitWp s u = true → unitWp s v = false →
      (targetUnit s = some u → ∃ t, exec .write s = .next t ∧ pendingText t = [0xFD] ∧ imageOf t v = imageOf s v) ∧
      (targetUnit s = some v → (nextDraw s).fails = false → (imageOf s v).isSome →
        s.txt[0].toNat + 256 * s.txt[1].toNat < 2560 →
        ∃ t, exec .write s = .next t ∧ pendingText t = [0x00] ∧ imageOf t u = imageOf t v))
end

