-- ==== Sys2Proof/Laws/State.lean ====
section
/-! SUPPORT. For each shared operation, what it leaves in every field. -/

namespace Sys2Proof.Machine

/-! ### send -/

@[simp] theorem send_st (bs : List Byte) (s : State) : (send bs s).st = s.st := rfl
@[simp] theorem send_cnt (bs : List Byte) (s : State) : (send bs s).cnt = s.cnt := rfl
@[simp] theorem send_f_fmt (bs : List Byte) (s : State) : (send bs s).f_fmt = s.f_fmt := rfl
@[simp] theorem send_f_did (bs : List Byte) (s : State) : (send bs s).f_did = s.f_did := rfl
@[simp] theorem send_f_sid (bs : List Byte) (s : State) : (send bs s).f_sid = s.f_sid := rfl
@[simp] theorem send_f_fnc (bs : List Byte) (s : State) : (send bs s).f_fnc = s.f_fnc := rfl
@[simp] theorem send_f_siz (bs : List Byte) (s : State) : (send bs s).f_siz = s.f_siz := rfl
@[simp] theorem send_cks (bs : List Byte) (s : State) : (send bs s).cks = s.cks := rfl
@[simp] theorem send_txt (bs : List Byte) (s : State) : (send bs s).txt = s.txt := rfl
@[simp] theorem send_lat_did (bs : List Byte) (s : State) : (send bs s).lat_did = s.lat_did := rfl
@[simp] theorem send_lat_sid (bs : List Byte) (s : State) : (send bs s).lat_sid = s.lat_sid := rfl
@[simp] theorem send_lat_fnc (bs : List Byte) (s : State) : (send bs s).lat_fnc = s.lat_fnc := rfl
@[simp] theorem send_lat_siz (bs : List Byte) (s : State) : (send bs s).lat_siz = s.lat_siz := rfl
@[simp] theorem send_lat_cks (bs : List Byte) (s : State) : (send bs s).lat_cks = s.lat_cks := rfl
@[simp] theorem send_err_prev (bs : List Byte) (s : State) : (send bs s).err_prev = s.err_prev := rfl
@[simp] theorem send_r_did (bs : List Byte) (s : State) : (send bs s).r_did = s.r_did := rfl
@[simp] theorem send_r_sid (bs : List Byte) (s : State) : (send bs s).r_sid = s.r_sid := rfl
@[simp] theorem send_r_fnc (bs : List Byte) (s : State) : (send bs s).r_fnc = s.r_fnc := rfl
@[simp] theorem send_r_siz (bs : List Byte) (s : State) : (send bs s).r_siz = s.r_siz := rfl
@[simp] theorem send_rtxt (bs : List Byte) (s : State) : (send bs s).rtxt = s.rtxt := rfl
@[simp] theorem send_selected (bs : List Byte) (s : State) : (send bs s).selected = s.selected := rfl
@[simp] theorem send_wp (bs : List Byte) (s : State) : (send bs s).wp = s.wp := rfl
@[simp] theorem send_name (bs : List Byte) (s : State) : (send bs s).name = s.name := rfl
@[simp] theorem send_dir_cursor (bs : List Byte) (s : State) : (send bs s).dir_cursor = s.dir_cursor := rfl
@[simp] theorem send_files (bs : List Byte) (s : State) : (send bs s).files = s.files := rfl
@[simp] theorem send_listing (bs : List Byte) (s : State) : (send bs s).listing = s.listing := rfl
@[simp] theorem send_tx (bs : List Byte) (s : State) : (send bs s).tx = s.tx ++ bs := rfl
@[simp] theorem send_cfg (bs : List Byte) (s : State) : (send bs s).cfg = s.cfg := rfl
@[simp] theorem send_rx (bs : List Byte) (s : State) : (send bs s).rx = s.rx := rfl
@[simp] theorem send_env (bs : List Byte) (s : State) : (send bs s).env = s.env := rfl
@[simp] theorem send_drawn (bs : List Byte) (s : State) : (send bs s).drawn = s.drawn := rfl

/-! ### clearFrame -/

@[simp] theorem clearFrame_st (s : State) : (clearFrame s).st = s.st := rfl
@[simp] theorem clearFrame_cnt (s : State) : (clearFrame s).cnt = 0 := rfl
@[simp] theorem clearFrame_f_fmt (s : State) : (clearFrame s).f_fmt = 0 := rfl
@[simp] theorem clearFrame_f_did (s : State) : (clearFrame s).f_did = 0 := rfl
@[simp] theorem clearFrame_f_sid (s : State) : (clearFrame s).f_sid = 0 := rfl
@[simp] theorem clearFrame_f_fnc (s : State) : (clearFrame s).f_fnc = 0 := rfl
@[simp] theorem clearFrame_f_siz (s : State) : (clearFrame s).f_siz = 0 := rfl
@[simp] theorem clearFrame_cks (s : State) : (clearFrame s).cks = 0 := rfl
@[simp] theorem clearFrame_txt (s : State) : (clearFrame s).txt = s.txt := rfl
@[simp] theorem clearFrame_lat_did (s : State) : (clearFrame s).lat_did = s.lat_did := rfl
@[simp] theorem clearFrame_lat_sid (s : State) : (clearFrame s).lat_sid = s.lat_sid := rfl
@[simp] theorem clearFrame_lat_fnc (s : State) : (clearFrame s).lat_fnc = s.lat_fnc := rfl
@[simp] theorem clearFrame_lat_siz (s : State) : (clearFrame s).lat_siz = s.lat_siz := rfl
@[simp] theorem clearFrame_lat_cks (s : State) : (clearFrame s).lat_cks = s.lat_cks := rfl
@[simp] theorem clearFrame_err_prev (s : State) : (clearFrame s).err_prev = s.err_prev := rfl
@[simp] theorem clearFrame_r_did (s : State) : (clearFrame s).r_did = s.r_did := rfl
@[simp] theorem clearFrame_r_sid (s : State) : (clearFrame s).r_sid = s.r_sid := rfl
@[simp] theorem clearFrame_r_fnc (s : State) : (clearFrame s).r_fnc = s.r_fnc := rfl
@[simp] theorem clearFrame_r_siz (s : State) : (clearFrame s).r_siz = s.r_siz := rfl
@[simp] theorem clearFrame_rtxt (s : State) : (clearFrame s).rtxt = s.rtxt := rfl
@[simp] theorem clearFrame_selected (s : State) : (clearFrame s).selected = s.selected := rfl
@[simp] theorem clearFrame_wp (s : State) : (clearFrame s).wp = s.wp := rfl
@[simp] theorem clearFrame_name (s : State) : (clearFrame s).name = s.name := rfl
@[simp] theorem clearFrame_dir_cursor (s : State) : (clearFrame s).dir_cursor = s.dir_cursor := rfl
@[simp] theorem clearFrame_files (s : State) : (clearFrame s).files = s.files := rfl
@[simp] theorem clearFrame_listing (s : State) : (clearFrame s).listing = s.listing := rfl
@[simp] theorem clearFrame_tx (s : State) : (clearFrame s).tx = s.tx := rfl
@[simp] theorem clearFrame_cfg (s : State) : (clearFrame s).cfg = s.cfg := rfl
@[simp] theorem clearFrame_rx (s : State) : (clearFrame s).rx = s.rx := rfl
@[simp] theorem clearFrame_env (s : State) : (clearFrame s).env = s.env := rfl
@[simp] theorem clearFrame_drawn (s : State) : (clearFrame s).drawn = s.drawn := rfl

/-! ### enterError -/

@[simp] theorem enterError_st (pre : St) (s : State) : (enterError pre s).st = .error := rfl
@[simp] theorem enterError_cnt (pre : St) (s : State) : (enterError pre s).cnt = 0 := rfl
@[simp] theorem enterError_f_fmt (pre : St) (s : State) : (enterError pre s).f_fmt = 0 := rfl
@[simp] theorem enterError_f_did (pre : St) (s : State) : (enterError pre s).f_did = 0 := rfl
@[simp] theorem enterError_f_sid (pre : St) (s : State) : (enterError pre s).f_sid = 0 := rfl
@[simp] theorem enterError_f_fnc (pre : St) (s : State) : (enterError pre s).f_fnc = 0 := rfl
@[simp] theorem enterError_f_siz (pre : St) (s : State) : (enterError pre s).f_siz = 0 := rfl
@[simp] theorem enterError_cks (pre : St) (s : State) : (enterError pre s).cks = 0 := rfl
@[simp] theorem enterError_txt (pre : St) (s : State) : (enterError pre s).txt = s.txt := rfl
@[simp] theorem enterError_lat_did (pre : St) (s : State) : (enterError pre s).lat_did = s.lat_did := rfl
@[simp] theorem enterError_lat_sid (pre : St) (s : State) : (enterError pre s).lat_sid = s.lat_sid := rfl
@[simp] theorem enterError_lat_fnc (pre : St) (s : State) : (enterError pre s).lat_fnc = s.lat_fnc := rfl
@[simp] theorem enterError_lat_siz (pre : St) (s : State) : (enterError pre s).lat_siz = s.lat_siz := rfl
@[simp] theorem enterError_lat_cks (pre : St) (s : State) : (enterError pre s).lat_cks = s.lat_cks := rfl
@[simp] theorem enterError_err_prev (pre : St) (s : State) : (enterError pre s).err_prev = pre := rfl
@[simp] theorem enterError_r_did (pre : St) (s : State) : (enterError pre s).r_did = s.r_did := rfl
@[simp] theorem enterError_r_sid (pre : St) (s : State) : (enterError pre s).r_sid = s.r_sid := rfl
@[simp] theorem enterError_r_fnc (pre : St) (s : State) : (enterError pre s).r_fnc = s.r_fnc := rfl
@[simp] theorem enterError_r_siz (pre : St) (s : State) : (enterError pre s).r_siz = s.r_siz := rfl
@[simp] theorem enterError_rtxt (pre : St) (s : State) : (enterError pre s).rtxt = s.rtxt := rfl
@[simp] theorem enterError_selected (pre : St) (s : State) : (enterError pre s).selected = s.selected := rfl
@[simp] theorem enterError_wp (pre : St) (s : State) : (enterError pre s).wp = s.wp := rfl
@[simp] theorem enterError_name (pre : St) (s : State) : (enterError pre s).name = s.name := rfl
@[simp] theorem enterError_dir_cursor (pre : St) (s : State) : (enterError pre s).dir_cursor = s.dir_cursor := rfl
@[simp] theorem enterError_files (pre : St) (s : State) : (enterError pre s).files = s.files := rfl
@[simp] theorem enterError_listing (pre : St) (s : State) : (enterError pre s).listing = s.listing := rfl
@[simp] theorem enterError_tx (pre : St) (s : State) : (enterError pre s).tx = s.tx := rfl
@[simp] theorem enterError_cfg (pre : St) (s : State) : (enterError pre s).cfg = s.cfg := rfl
@[simp] theorem enterError_rx (pre : St) (s : State) : (enterError pre s).rx = s.rx := rfl
@[simp] theorem enterError_env (pre : St) (s : State) : (enterError pre s).env = s.env := rfl
@[simp] theorem enterError_drawn (pre : St) (s : State) : (enterError pre s).drawn = s.drawn := rfl

/-! ### framingViolation -/

@[simp] theorem framingViolation_st (s : State) : (framingViolation s).st = .error := rfl
@[simp] theorem framingViolation_cnt (s : State) : (framingViolation s).cnt = 0 := rfl
@[simp] theorem framingViolation_f_fmt (s : State) : (framingViolation s).f_fmt = 0 := rfl
@[simp] theorem framingViolation_f_did (s : State) : (framingViolation s).f_did = 0 := rfl
@[simp] theorem framingViolation_f_sid (s : State) : (framingViolation s).f_sid = 0 := rfl
@[simp] theorem framingViolation_f_fnc (s : State) : (framingViolation s).f_fnc = 0 := rfl
@[simp] theorem framingViolation_f_siz (s : State) : (framingViolation s).f_siz = 0 := rfl
@[simp] theorem framingViolation_cks (s : State) : (framingViolation s).cks = 0 := rfl
@[simp] theorem framingViolation_txt (s : State) : (framingViolation s).txt = s.txt := rfl
@[simp] theorem framingViolation_lat_did (s : State) : (framingViolation s).lat_did = s.lat_did := rfl
@[simp] theorem framingViolation_lat_sid (s : State) : (framingViolation s).lat_sid = s.lat_sid := rfl
@[simp] theorem framingViolation_lat_fnc (s : State) : (framingViolation s).lat_fnc = s.lat_fnc := rfl
@[simp] theorem framingViolation_lat_siz (s : State) : (framingViolation s).lat_siz = s.lat_siz := rfl
@[simp] theorem framingViolation_lat_cks (s : State) : (framingViolation s).lat_cks = s.lat_cks := rfl
@[simp] theorem framingViolation_err_prev (s : State) : (framingViolation s).err_prev = s.st := rfl
@[simp] theorem framingViolation_r_did (s : State) : (framingViolation s).r_did = s.r_did := rfl
@[simp] theorem framingViolation_r_sid (s : State) : (framingViolation s).r_sid = s.r_sid := rfl
@[simp] theorem framingViolation_r_fnc (s : State) : (framingViolation s).r_fnc = s.r_fnc := rfl
@[simp] theorem framingViolation_r_siz (s : State) : (framingViolation s).r_siz = s.r_siz := rfl
@[simp] theorem framingViolation_rtxt (s : State) : (framingViolation s).rtxt = s.rtxt := rfl
@[simp] theorem framingViolation_selected (s : State) : (framingViolation s).selected = s.selected := rfl
@[simp] theorem framingViolation_wp (s : State) : (framingViolation s).wp = s.wp := rfl
@[simp] theorem framingViolation_name (s : State) : (framingViolation s).name = s.name := rfl
@[simp] theorem framingViolation_dir_cursor (s : State) : (framingViolation s).dir_cursor = s.dir_cursor := rfl
@[simp] theorem framingViolation_files (s : State) : (framingViolation s).files = s.files := rfl
@[simp] theorem framingViolation_listing (s : State) : (framingViolation s).listing = s.listing := rfl
@[simp] theorem framingViolation_tx (s : State) : (framingViolation s).tx = s.tx := rfl
@[simp] theorem framingViolation_cfg (s : State) : (framingViolation s).cfg = s.cfg := rfl
@[simp] theorem framingViolation_rx (s : State) : (framingViolation s).rx = s.rx := rfl
@[simp] theorem framingViolation_env (s : State) : (framingViolation s).env = s.env := rfl
@[simp] theorem framingViolation_drawn (s : State) : (framingViolation s).drawn = s.drawn := rfl

/-! ### headerChecksumFailure -/

@[simp] theorem headerChecksumFailure_st (s : State) : (headerChecksumFailure s).st = .error := rfl
@[simp] theorem headerChecksumFailure_cnt (s : State) : (headerChecksumFailure s).cnt = 0 := rfl
@[simp] theorem headerChecksumFailure_f_fmt (s : State) : (headerChecksumFailure s).f_fmt = 0 := rfl
@[simp] theorem headerChecksumFailure_f_did (s : State) : (headerChecksumFailure s).f_did = 0 := rfl
@[simp] theorem headerChecksumFailure_f_sid (s : State) : (headerChecksumFailure s).f_sid = 0 := rfl
@[simp] theorem headerChecksumFailure_f_fnc (s : State) : (headerChecksumFailure s).f_fnc = 0 := rfl
@[simp] theorem headerChecksumFailure_f_siz (s : State) : (headerChecksumFailure s).f_siz = 0 := rfl
@[simp] theorem headerChecksumFailure_cks (s : State) : (headerChecksumFailure s).cks = 0 := rfl
@[simp] theorem headerChecksumFailure_txt (s : State) : (headerChecksumFailure s).txt = s.txt := rfl
@[simp] theorem headerChecksumFailure_lat_did (s : State) : (headerChecksumFailure s).lat_did = s.lat_did := rfl
@[simp] theorem headerChecksumFailure_lat_sid (s : State) : (headerChecksumFailure s).lat_sid = s.lat_sid := rfl
@[simp] theorem headerChecksumFailure_lat_fnc (s : State) : (headerChecksumFailure s).lat_fnc = s.lat_fnc := rfl
@[simp] theorem headerChecksumFailure_lat_siz (s : State) : (headerChecksumFailure s).lat_siz = s.lat_siz := rfl
@[simp] theorem headerChecksumFailure_lat_cks (s : State) : (headerChecksumFailure s).lat_cks = s.lat_cks := rfl
@[simp] theorem headerChecksumFailure_err_prev (s : State) : (headerChecksumFailure s).err_prev = .hdrCks := rfl
@[simp] theorem headerChecksumFailure_r_did (s : State) : (headerChecksumFailure s).r_did = s.r_did := rfl
@[simp] theorem headerChecksumFailure_r_sid (s : State) : (headerChecksumFailure s).r_sid = s.r_sid := rfl
@[simp] theorem headerChecksumFailure_r_fnc (s : State) : (headerChecksumFailure s).r_fnc = s.r_fnc := rfl
@[simp] theorem headerChecksumFailure_r_siz (s : State) : (headerChecksumFailure s).r_siz = s.r_siz := rfl
@[simp] theorem headerChecksumFailure_rtxt (s : State) : (headerChecksumFailure s).rtxt = s.rtxt := rfl
@[simp] theorem headerChecksumFailure_selected (s : State) : (headerChecksumFailure s).selected = s.selected := rfl
@[simp] theorem headerChecksumFailure_wp (s : State) : (headerChecksumFailure s).wp = s.wp := rfl
@[simp] theorem headerChecksumFailure_name (s : State) : (headerChecksumFailure s).name = s.name := rfl
@[simp] theorem headerChecksumFailure_dir_cursor (s : State) : (headerChecksumFailure s).dir_cursor = s.dir_cursor := rfl
@[simp] theorem headerChecksumFailure_files (s : State) : (headerChecksumFailure s).files = s.files := rfl
@[simp] theorem headerChecksumFailure_listing (s : State) : (headerChecksumFailure s).listing = s.listing := rfl
@[simp] theorem headerChecksumFailure_tx (s : State) : (headerChecksumFailure s).tx = s.tx ++ [0x15] := rfl
@[simp] theorem headerChecksumFailure_cfg (s : State) : (headerChecksumFailure s).cfg = s.cfg := rfl
@[simp] theorem headerChecksumFailure_rx (s : State) : (headerChecksumFailure s).rx = s.rx := rfl
@[simp] theorem headerChecksumFailure_env (s : State) : (headerChecksumFailure s).env = s.env := rfl
@[simp] theorem headerChecksumFailure_drawn (s : State) : (headerChecksumFailure s).drawn = s.drawn := rfl

/-! ### textChecksumFailure -/

@[simp] theorem textChecksumFailure_st (s : State) : (textChecksumFailure s).st = .error := rfl
@[simp] theorem textChecksumFailure_cnt (s : State) : (textChecksumFailure s).cnt = 0 := rfl
@[simp] theorem textChecksumFailure_f_fmt (s : State) : (textChecksumFailure s).f_fmt = 0 := rfl
@[simp] theorem textChecksumFailure_f_did (s : State) : (textChecksumFailure s).f_did = 0 := rfl
@[simp] theorem textChecksumFailure_f_sid (s : State) : (textChecksumFailure s).f_sid = 0 := rfl
@[simp] theorem textChecksumFailure_f_fnc (s : State) : (textChecksumFailure s).f_fnc = 0 := rfl
@[simp] theorem textChecksumFailure_f_siz (s : State) : (textChecksumFailure s).f_siz = 0 := rfl
@[simp] theorem textChecksumFailure_cks (s : State) : (textChecksumFailure s).cks = 0 := rfl
@[simp] theorem textChecksumFailure_txt (s : State) : (textChecksumFailure s).txt = s.txt := rfl
@[simp] theorem textChecksumFailure_lat_did (s : State) : (textChecksumFailure s).lat_did = s.lat_did := rfl
@[simp] theorem textChecksumFailure_lat_sid (s : State) : (textChecksumFailure s).lat_sid = s.lat_sid := rfl
@[simp] theorem textChecksumFailure_lat_fnc (s : State) : (textChecksumFailure s).lat_fnc = s.lat_fnc := rfl
@[simp] theorem textChecksumFailure_lat_siz (s : State) : (textChecksumFailure s).lat_siz = s.lat_siz := rfl
@[simp] theorem textChecksumFailure_lat_cks (s : State) : (textChecksumFailure s).lat_cks = s.lat_cks := rfl
@[simp] theorem textChecksumFailure_err_prev (s : State) : (textChecksumFailure s).err_prev = .txtCks := rfl
@[simp] theorem textChecksumFailure_r_did (s : State) : (textChecksumFailure s).r_did = s.r_did := rfl
@[simp] theorem textChecksumFailure_r_sid (s : State) : (textChecksumFailure s).r_sid = s.r_sid := rfl
@[simp] theorem textChecksumFailure_r_fnc (s : State) : (textChecksumFailure s).r_fnc = s.r_fnc := rfl
@[simp] theorem textChecksumFailure_r_siz (s : State) : (textChecksumFailure s).r_siz = s.r_siz := rfl
@[simp] theorem textChecksumFailure_rtxt (s : State) : (textChecksumFailure s).rtxt = s.rtxt := rfl
@[simp] theorem textChecksumFailure_selected (s : State) : (textChecksumFailure s).selected = s.selected := rfl
@[simp] theorem textChecksumFailure_wp (s : State) : (textChecksumFailure s).wp = s.wp := rfl
@[simp] theorem textChecksumFailure_name (s : State) : (textChecksumFailure s).name = s.name := rfl
@[simp] theorem textChecksumFailure_dir_cursor (s : State) : (textChecksumFailure s).dir_cursor = s.dir_cursor := rfl
@[simp] theorem textChecksumFailure_files (s : State) : (textChecksumFailure s).files = s.files := rfl
@[simp] theorem textChecksumFailure_listing (s : State) : (textChecksumFailure s).listing = s.listing := rfl
@[simp] theorem textChecksumFailure_tx (s : State) : (textChecksumFailure s).tx = s.tx ++ [0x15] := rfl
@[simp] theorem textChecksumFailure_cfg (s : State) : (textChecksumFailure s).cfg = s.cfg := rfl
@[simp] theorem textChecksumFailure_rx (s : State) : (textChecksumFailure s).rx = s.rx := rfl
@[simp] theorem textChecksumFailure_env (s : State) : (textChecksumFailure s).env = s.env := rfl
@[simp] theorem textChecksumFailure_drawn (s : State) : (textChecksumFailure s).drawn = s.drawn := rfl

/-! ### reply -/

@[simp] theorem reply_st (R : List Byte) (s : State) : (reply R s).st = s.st := rfl
@[simp] theorem reply_cnt (R : List Byte) (s : State) : (reply R s).cnt = s.cnt := rfl
@[simp] theorem reply_f_fmt (R : List Byte) (s : State) : (reply R s).f_fmt = s.f_fmt := rfl
@[simp] theorem reply_f_did (R : List Byte) (s : State) : (reply R s).f_did = s.f_did := rfl
@[simp] theorem reply_f_sid (R : List Byte) (s : State) : (reply R s).f_sid = s.f_sid := rfl
@[simp] theorem reply_f_fnc (R : List Byte) (s : State) : (reply R s).f_fnc = s.f_fnc := rfl
@[simp] theorem reply_f_siz (R : List Byte) (s : State) : (reply R s).f_siz = s.f_siz := rfl
@[simp] theorem reply_cks (R : List Byte) (s : State) : (reply R s).cks = s.cks := rfl
@[simp] theorem reply_txt (R : List Byte) (s : State) : (reply R s).txt = s.txt := rfl
@[simp] theorem reply_lat_did (R : List Byte) (s : State) : (reply R s).lat_did = s.lat_did := rfl
@[simp] theorem reply_lat_sid (R : List Byte) (s : State) : (reply R s).lat_sid = s.lat_sid := rfl
@[simp] theorem reply_lat_fnc (R : List Byte) (s : State) : (reply R s).lat_fnc = s.lat_fnc := rfl
@[simp] theorem reply_lat_siz (R : List Byte) (s : State) : (reply R s).lat_siz = s.lat_siz := rfl
@[simp] theorem reply_lat_cks (R : List Byte) (s : State) : (reply R s).lat_cks = s.lat_cks := rfl
@[simp] theorem reply_err_prev (R : List Byte) (s : State) : (reply R s).err_prev = s.err_prev := rfl
@[simp] theorem reply_r_did (R : List Byte) (s : State) : (reply R s).r_did = s.f_sid := rfl
@[simp] theorem reply_r_sid (R : List Byte) (s : State) : (reply R s).r_sid = s.f_did := rfl
@[simp] theorem reply_r_fnc (R : List Byte) (s : State) : (reply R s).r_fnc = s.f_fnc := rfl
@[simp] theorem reply_r_siz (R : List Byte) (s : State) : (reply R s).r_siz = BitVec.ofNat 8 R.length := rfl
@[simp] theorem reply_rtxt (R : List Byte) (s : State) : (reply R s).rtxt = overwrite R s.rtxt := rfl
@[simp] theorem reply_selected (R : List Byte) (s : State) : (reply R s).selected = s.selected := rfl
@[simp] theorem reply_wp (R : List Byte) (s : State) : (reply R s).wp = s.wp := rfl
@[simp] theorem reply_name (R : List Byte) (s : State) : (reply R s).name = s.name := rfl
@[simp] theorem reply_dir_cursor (R : List Byte) (s : State) : (reply R s).dir_cursor = s.dir_cursor := rfl
@[simp] theorem reply_files (R : List Byte) (s : State) : (reply R s).files = s.files := rfl
@[simp] theorem reply_listing (R : List Byte) (s : State) : (reply R s).listing = s.listing := rfl
@[simp] theorem reply_tx (R : List Byte) (s : State) : (reply R s).tx = s.tx := rfl
@[simp] theorem reply_cfg (R : List Byte) (s : State) : (reply R s).cfg = s.cfg := rfl
@[simp] theorem reply_rx (R : List Byte) (s : State) : (reply R s).rx = s.rx := rfl
@[simp] theorem reply_env (R : List Byte) (s : State) : (reply R s).env = s.env := rfl
@[simp] theorem reply_drawn (R : List Byte) (s : State) : (reply R s).drawn = s.drawn := rfl

/-! ### malformed -/

@[simp] theorem malformed_st (s : State) : (malformed s).st = s.st := rfl
@[simp] theorem malformed_cnt (s : State) : (malformed s).cnt = s.cnt := rfl
@[simp] theorem malformed_f_fmt (s : State) : (malformed s).f_fmt = s.f_fmt := rfl
@[simp] theorem malformed_f_did (s : State) : (malformed s).f_did = s.f_did := rfl
@[simp] theorem malformed_f_sid (s : State) : (malformed s).f_sid = s.f_sid := rfl
@[simp] theorem malformed_f_fnc (s : State) : (malformed s).f_fnc = s.f_fnc := rfl
@[simp] theorem malformed_f_siz (s : State) : (malformed s).f_siz = s.f_siz := rfl
@[simp] theorem malformed_cks (s : State) : (malformed s).cks = s.cks := rfl
@[simp] theorem malformed_txt (s : State) : (malformed s).txt = s.txt := rfl
@[simp] theorem malformed_lat_did (s : State) : (malformed s).lat_did = s.lat_did := rfl
@[simp] theorem malformed_lat_sid (s : State) : (malformed s).lat_sid = s.lat_sid := rfl
@[simp] theorem malformed_lat_fnc (s : State) : (malformed s).lat_fnc = s.lat_fnc := rfl
@[simp] theorem malformed_lat_siz (s : State) : (malformed s).lat_siz = s.lat_siz := rfl
@[simp] theorem malformed_lat_cks (s : State) : (malformed s).lat_cks = s.lat_cks := rfl
@[simp] theorem malformed_err_prev (s : State) : (malformed s).err_prev = s.err_prev := rfl
@[simp] theorem malformed_r_did (s : State) : (malformed s).r_did = s.f_sid := rfl
@[simp] theorem malformed_r_sid (s : State) : (malformed s).r_sid = s.f_did := rfl
@[simp] theorem malformed_r_fnc (s : State) : (malformed s).r_fnc = s.f_fnc := rfl
@[simp] theorem malformed_r_siz (s : State) : (malformed s).r_siz = 1 := rfl
@[simp] theorem malformed_rtxt (s : State) : (malformed s).rtxt = overwrite [s.cfg.stMalformed] s.rtxt := rfl
@[simp] theorem malformed_selected (s : State) : (malformed s).selected = s.selected := rfl
@[simp] theorem malformed_wp (s : State) : (malformed s).wp = s.wp := rfl
@[simp] theorem malformed_name (s : State) : (malformed s).name = s.name := rfl
@[simp] theorem malformed_dir_cursor (s : State) : (malformed s).dir_cursor = s.dir_cursor := rfl
@[simp] theorem malformed_files (s : State) : (malformed s).files = s.files := rfl
@[simp] theorem malformed_listing (s : State) : (malformed s).listing = s.listing := rfl
@[simp] theorem malformed_tx (s : State) : (malformed s).tx = s.tx := rfl
@[simp] theorem malformed_cfg (s : State) : (malformed s).cfg = s.cfg := rfl
@[simp] theorem malformed_rx (s : State) : (malformed s).rx = s.rx := rfl
@[simp] theorem malformed_env (s : State) : (malformed s).env = s.env := rfl
@[simp] theorem malformed_drawn (s : State) : (malformed s).drawn = s.drawn := rfl

/-! ### selectUnit -/

@[simp] theorem selectUnit_st (u : Nat) (s : State) : (selectUnit u s).st = s.st := rfl
@[simp] theorem selectUnit_cnt (u : Nat) (s : State) : (selectUnit u s).cnt = s.cnt := rfl
@[simp] theorem selectUnit_f_fmt (u : Nat) (s : State) : (selectUnit u s).f_fmt = s.f_fmt := rfl
@[simp] theorem selectUnit_f_did (u : Nat) (s : State) : (selectUnit u s).f_did = s.f_did := rfl
@[simp] theorem selectUnit_f_sid (u : Nat) (s : State) : (selectUnit u s).f_sid = s.f_sid := rfl
@[simp] theorem selectUnit_f_fnc (u : Nat) (s : State) : (selectUnit u s).f_fnc = s.f_fnc := rfl
@[simp] theorem selectUnit_f_siz (u : Nat) (s : State) : (selectUnit u s).f_siz = s.f_siz := rfl
@[simp] theorem selectUnit_cks (u : Nat) (s : State) : (selectUnit u s).cks = s.cks := rfl
@[simp] theorem selectUnit_txt (u : Nat) (s : State) : (selectUnit u s).txt = s.txt := rfl
@[simp] theorem selectUnit_lat_did (u : Nat) (s : State) : (selectUnit u s).lat_did = s.lat_did := rfl
@[simp] theorem selectUnit_lat_sid (u : Nat) (s : State) : (selectUnit u s).lat_sid = s.lat_sid := rfl
@[simp] theorem selectUnit_lat_fnc (u : Nat) (s : State) : (selectUnit u s).lat_fnc = s.lat_fnc := rfl
@[simp] theorem selectUnit_lat_siz (u : Nat) (s : State) : (selectUnit u s).lat_siz = s.lat_siz := rfl
@[simp] theorem selectUnit_lat_cks (u : Nat) (s : State) : (selectUnit u s).lat_cks = s.lat_cks := rfl
@[simp] theorem selectUnit_err_prev (u : Nat) (s : State) : (selectUnit u s).err_prev = s.err_prev := rfl
@[simp] theorem selectUnit_r_did (u : Nat) (s : State) : (selectUnit u s).r_did = s.r_did := rfl
@[simp] theorem selectUnit_r_sid (u : Nat) (s : State) : (selectUnit u s).r_sid = s.r_sid := rfl
@[simp] theorem selectUnit_r_fnc (u : Nat) (s : State) : (selectUnit u s).r_fnc = s.r_fnc := rfl
@[simp] theorem selectUnit_r_siz (u : Nat) (s : State) : (selectUnit u s).r_siz = s.r_siz := rfl
@[simp] theorem selectUnit_rtxt (u : Nat) (s : State) : (selectUnit u s).rtxt = s.rtxt := rfl
@[simp] theorem selectUnit_selected (u : Nat) (s : State) : (selectUnit u s).selected = some u := rfl
@[simp] theorem selectUnit_wp (u : Nat) (s : State) : (selectUnit u s).wp = s.wp := rfl
@[simp] theorem selectUnit_name (u : Nat) (s : State) : (selectUnit u s).name = s.name := rfl
@[simp] theorem selectUnit_dir_cursor (u : Nat) (s : State) : (selectUnit u s).dir_cursor = s.dir_cursor := rfl
@[simp] theorem selectUnit_files (u : Nat) (s : State) : (selectUnit u s).files = s.files := rfl
@[simp] theorem selectUnit_listing (u : Nat) (s : State) : (selectUnit u s).listing = s.listing := rfl
@[simp] theorem selectUnit_tx (u : Nat) (s : State) : (selectUnit u s).tx = s.tx := rfl
@[simp] theorem selectUnit_cfg (u : Nat) (s : State) : (selectUnit u s).cfg = s.cfg := rfl
@[simp] theorem selectUnit_rx (u : Nat) (s : State) : (selectUnit u s).rx = s.rx := rfl
@[simp] theorem selectUnit_env (u : Nat) (s : State) : (selectUnit u s).env = s.env := rfl
@[simp] theorem selectUnit_drawn (u : Nat) (s : State) : (selectUnit u s).drawn = s.drawn := rfl

/-! ### deselect -/

@[simp] theorem deselect_st (s : State) : (deselect s).st = s.st := rfl
@[simp] theorem deselect_cnt (s : State) : (deselect s).cnt = s.cnt := rfl
@[simp] theorem deselect_f_fmt (s : State) : (deselect s).f_fmt = s.f_fmt := rfl
@[simp] theorem deselect_f_did (s : State) : (deselect s).f_did = s.f_did := rfl
@[simp] theorem deselect_f_sid (s : State) : (deselect s).f_sid = s.f_sid := rfl
@[simp] theorem deselect_f_fnc (s : State) : (deselect s).f_fnc = s.f_fnc := rfl
@[simp] theorem deselect_f_siz (s : State) : (deselect s).f_siz = s.f_siz := rfl
@[simp] theorem deselect_cks (s : State) : (deselect s).cks = s.cks := rfl
@[simp] theorem deselect_txt (s : State) : (deselect s).txt = s.txt := rfl
@[simp] theorem deselect_lat_did (s : State) : (deselect s).lat_did = s.lat_did := rfl
@[simp] theorem deselect_lat_sid (s : State) : (deselect s).lat_sid = s.lat_sid := rfl
@[simp] theorem deselect_lat_fnc (s : State) : (deselect s).lat_fnc = s.lat_fnc := rfl
@[simp] theorem deselect_lat_siz (s : State) : (deselect s).lat_siz = s.lat_siz := rfl
@[simp] theorem deselect_lat_cks (s : State) : (deselect s).lat_cks = s.lat_cks := rfl
@[simp] theorem deselect_err_prev (s : State) : (deselect s).err_prev = s.err_prev := rfl
@[simp] theorem deselect_r_did (s : State) : (deselect s).r_did = s.r_did := rfl
@[simp] theorem deselect_r_sid (s : State) : (deselect s).r_sid = s.r_sid := rfl
@[simp] theorem deselect_r_fnc (s : State) : (deselect s).r_fnc = s.r_fnc := rfl
@[simp] theorem deselect_r_siz (s : State) : (deselect s).r_siz = s.r_siz := rfl
@[simp] theorem deselect_rtxt (s : State) : (deselect s).rtxt = s.rtxt := rfl
@[simp] theorem deselect_selected (s : State) : (deselect s).selected = none := rfl
@[simp] theorem deselect_wp (s : State) : (deselect s).wp = s.wp := rfl
@[simp] theorem deselect_name (s : State) : (deselect s).name = s.name := rfl
@[simp] theorem deselect_dir_cursor (s : State) : (deselect s).dir_cursor = s.dir_cursor := rfl
@[simp] theorem deselect_files (s : State) : (deselect s).files = s.files := rfl
@[simp] theorem deselect_listing (s : State) : (deselect s).listing = s.listing := rfl
@[simp] theorem deselect_tx (s : State) : (deselect s).tx = s.tx := rfl
@[simp] theorem deselect_cfg (s : State) : (deselect s).cfg = s.cfg := rfl
@[simp] theorem deselect_rx (s : State) : (deselect s).rx = s.rx := rfl
@[simp] theorem deselect_env (s : State) : (deselect s).env = s.env := rfl
@[simp] theorem deselect_drawn (s : State) : (deselect s).drawn = s.drawn := rfl

/-! ### toggleProtect -/

@[simp] theorem toggleProtect_st (u : Nat) (s : State) : (toggleProtect u s).st = s.st := rfl
@[simp] theorem toggleProtect_cnt (u : Nat) (s : State) : (toggleProtect u s).cnt = s.cnt := rfl
@[simp] theorem toggleProtect_f_fmt (u : Nat) (s : State) : (toggleProtect u s).f_fmt = s.f_fmt := rfl
@[simp] theorem toggleProtect_f_did (u : Nat) (s : State) : (toggleProtect u s).f_did = s.f_did := rfl
@[simp] theorem toggleProtect_f_sid (u : Nat) (s : State) : (toggleProtect u s).f_sid = s.f_sid := rfl
@[simp] theorem toggleProtect_f_fnc (u : Nat) (s : State) : (toggleProtect u s).f_fnc = s.f_fnc := rfl
@[simp] theorem toggleProtect_f_siz (u : Nat) (s : State) : (toggleProtect u s).f_siz = s.f_siz := rfl
@[simp] theorem toggleProtect_cks (u : Nat) (s : State) : (toggleProtect u s).cks = s.cks := rfl
@[simp] theorem toggleProtect_txt (u : Nat) (s : State) : (toggleProtect u s).txt = s.txt := rfl
@[simp] theorem toggleProtect_lat_did (u : Nat) (s : State) : (toggleProtect u s).lat_did = s.lat_did := rfl
@[simp] theorem toggleProtect_lat_sid (u : Nat) (s : State) : (toggleProtect u s).lat_sid = s.lat_sid := rfl
@[simp] theorem toggleProtect_lat_fnc (u : Nat) (s : State) : (toggleProtect u s).lat_fnc = s.lat_fnc := rfl
@[simp] theorem toggleProtect_lat_siz (u : Nat) (s : State) : (toggleProtect u s).lat_siz = s.lat_siz := rfl
@[simp] theorem toggleProtect_lat_cks (u : Nat) (s : State) : (toggleProtect u s).lat_cks = s.lat_cks := rfl
@[simp] theorem toggleProtect_err_prev (u : Nat) (s : State) : (toggleProtect u s).err_prev = s.err_prev := rfl
@[simp] theorem toggleProtect_r_did (u : Nat) (s : State) : (toggleProtect u s).r_did = s.r_did := rfl
@[simp] theorem toggleProtect_r_sid (u : Nat) (s : State) : (toggleProtect u s).r_sid = s.r_sid := rfl
@[simp] theorem toggleProtect_r_fnc (u : Nat) (s : State) : (toggleProtect u s).r_fnc = s.r_fnc := rfl
@[simp] theorem toggleProtect_r_siz (u : Nat) (s : State) : (toggleProtect u s).r_siz = s.r_siz := rfl
@[simp] theorem toggleProtect_rtxt (u : Nat) (s : State) : (toggleProtect u s).rtxt = s.rtxt := rfl
@[simp] theorem toggleProtect_selected (u : Nat) (s : State) : (toggleProtect u s).selected = s.selected := rfl
@[simp] theorem toggleProtect_wp (u : Nat) (s : State) : (toggleProtect u s).wp = s.wp.modify u (fun b => !b) := rfl
@[simp] theorem toggleProtect_name (u : Nat) (s : State) : (toggleProtect u s).name = s.name := rfl
@[simp] theorem toggleProtect_dir_cursor (u : Nat) (s : State) : (toggleProtect u s).dir_cursor = s.dir_cursor := rfl
@[simp] theorem toggleProtect_files (u : Nat) (s : State) : (toggleProtect u s).files = s.files := rfl
@[simp] theorem toggleProtect_listing (u : Nat) (s : State) : (toggleProtect u s).listing = s.listing := rfl
@[simp] theorem toggleProtect_tx (u : Nat) (s : State) : (toggleProtect u s).tx = s.tx := rfl
@[simp] theorem toggleProtect_cfg (u : Nat) (s : State) : (toggleProtect u s).cfg = s.cfg := rfl
@[simp] theorem toggleProtect_rx (u : Nat) (s : State) : (toggleProtect u s).rx = s.rx := rfl
@[simp] theorem toggleProtect_env (u : Nat) (s : State) : (toggleProtect u s).env = s.env := rfl
@[simp] theorem toggleProtect_drawn (u : Nat) (s : State) : (toggleProtect u s).drawn = s.drawn := rfl

/-! ### mount -/

@[simp] theorem mount_st (u : Nat) (n : Name) (s : State) : (mount u n s).st = s.st := rfl
@[simp] theorem mount_cnt (u : Nat) (n : Name) (s : State) : (mount u n s).cnt = s.cnt := rfl
@[simp] theorem mount_f_fmt (u : Nat) (n : Name) (s : State) : (mount u n s).f_fmt = s.f_fmt := rfl
@[simp] theorem mount_f_did (u : Nat) (n : Name) (s : State) : (mount u n s).f_did = s.f_did := rfl
@[simp] theorem mount_f_sid (u : Nat) (n : Name) (s : State) : (mount u n s).f_sid = s.f_sid := rfl
@[simp] theorem mount_f_fnc (u : Nat) (n : Name) (s : State) : (mount u n s).f_fnc = s.f_fnc := rfl
@[simp] theorem mount_f_siz (u : Nat) (n : Name) (s : State) : (mount u n s).f_siz = s.f_siz := rfl
@[simp] theorem mount_cks (u : Nat) (n : Name) (s : State) : (mount u n s).cks = s.cks := rfl
@[simp] theorem mount_txt (u : Nat) (n : Name) (s : State) : (mount u n s).txt = s.txt := rfl
@[simp] theorem mount_lat_did (u : Nat) (n : Name) (s : State) : (mount u n s).lat_did = s.lat_did := rfl
@[simp] theorem mount_lat_sid (u : Nat) (n : Name) (s : State) : (mount u n s).lat_sid = s.lat_sid := rfl
@[simp] theorem mount_lat_fnc (u : Nat) (n : Name) (s : State) : (mount u n s).lat_fnc = s.lat_fnc := rfl
@[simp] theorem mount_lat_siz (u : Nat) (n : Name) (s : State) : (mount u n s).lat_siz = s.lat_siz := rfl
@[simp] theorem mount_lat_cks (u : Nat) (n : Name) (s : State) : (mount u n s).lat_cks = s.lat_cks := rfl
@[simp] theorem mount_err_prev (u : Nat) (n : Name) (s : State) : (mount u n s).err_prev = s.err_prev := rfl
@[simp] theorem mount_r_did (u : Nat) (n : Name) (s : State) : (mount u n s).r_did = s.r_did := rfl
@[simp] theorem mount_r_sid (u : Nat) (n : Name) (s : State) : (mount u n s).r_sid = s.r_sid := rfl
@[simp] theorem mount_r_fnc (u : Nat) (n : Name) (s : State) : (mount u n s).r_fnc = s.r_fnc := rfl
@[simp] theorem mount_r_siz (u : Nat) (n : Name) (s : State) : (mount u n s).r_siz = s.r_siz := rfl
@[simp] theorem mount_rtxt (u : Nat) (n : Name) (s : State) : (mount u n s).rtxt = s.rtxt := rfl
@[simp] theorem mount_selected (u : Nat) (n : Name) (s : State) : (mount u n s).selected = s.selected := rfl
@[simp] theorem mount_wp (u : Nat) (n : Name) (s : State) : (mount u n s).wp = s.wp := rfl
@[simp] theorem mount_name (u : Nat) (n : Name) (s : State) : (mount u n s).name = s.name.set u n := rfl
@[simp] theorem mount_dir_cursor (u : Nat) (n : Name) (s : State) : (mount u n s).dir_cursor = s.dir_cursor := rfl
@[simp] theorem mount_files (u : Nat) (n : Name) (s : State) : (mount u n s).files = s.files := rfl
@[simp] theorem mount_listing (u : Nat) (n : Name) (s : State) : (mount u n s).listing = s.listing := rfl
@[simp] theorem mount_tx (u : Nat) (n : Name) (s : State) : (mount u n s).tx = s.tx := rfl
@[simp] theorem mount_cfg (u : Nat) (n : Name) (s : State) : (mount u n s).cfg = s.cfg := rfl
@[simp] theorem mount_rx (u : Nat) (n : Name) (s : State) : (mount u n s).rx = s.rx := rfl
@[simp] theorem mount_env (u : Nat) (n : Name) (s : State) : (mount u n s).env = s.env := rfl
@[simp] theorem mount_drawn (u : Nat) (n : Name) (s : State) : (mount u n s).drawn = s.drawn := rfl

/-! ### defaultTable -/

@[simp] theorem defaultTable_st (s : State) : (defaultTable s).st = s.st := rfl
@[simp] theorem defaultTable_cnt (s : State) : (defaultTable s).cnt = s.cnt := rfl
@[simp] theorem defaultTable_f_fmt (s : State) : (defaultTable s).f_fmt = s.f_fmt := rfl
@[simp] theorem defaultTable_f_did (s : State) : (defaultTable s).f_did = s.f_did := rfl
@[simp] theorem defaultTable_f_sid (s : State) : (defaultTable s).f_sid = s.f_sid := rfl
@[simp] theorem defaultTable_f_fnc (s : State) : (defaultTable s).f_fnc = s.f_fnc := rfl
@[simp] theorem defaultTable_f_siz (s : State) : (defaultTable s).f_siz = s.f_siz := rfl
@[simp] theorem defaultTable_cks (s : State) : (defaultTable s).cks = s.cks := rfl
@[simp] theorem defaultTable_txt (s : State) : (defaultTable s).txt = s.txt := rfl
@[simp] theorem defaultTable_lat_did (s : State) : (defaultTable s).lat_did = s.lat_did := rfl
@[simp] theorem defaultTable_lat_sid (s : State) : (defaultTable s).lat_sid = s.lat_sid := rfl
@[simp] theorem defaultTable_lat_fnc (s : State) : (defaultTable s).lat_fnc = s.lat_fnc := rfl
@[simp] theorem defaultTable_lat_siz (s : State) : (defaultTable s).lat_siz = s.lat_siz := rfl
@[simp] theorem defaultTable_lat_cks (s : State) : (defaultTable s).lat_cks = s.lat_cks := rfl
@[simp] theorem defaultTable_err_prev (s : State) : (defaultTable s).err_prev = s.err_prev := rfl
@[simp] theorem defaultTable_r_did (s : State) : (defaultTable s).r_did = s.r_did := rfl
@[simp] theorem defaultTable_r_sid (s : State) : (defaultTable s).r_sid = s.r_sid := rfl
@[simp] theorem defaultTable_r_fnc (s : State) : (defaultTable s).r_fnc = s.r_fnc := rfl
@[simp] theorem defaultTable_r_siz (s : State) : (defaultTable s).r_siz = s.r_siz := rfl
@[simp] theorem defaultTable_rtxt (s : State) : (defaultTable s).rtxt = s.rtxt := rfl
@[simp] theorem defaultTable_selected (s : State) : (defaultTable s).selected = s.selected := rfl
@[simp] theorem defaultTable_wp (s : State) : (defaultTable s).wp = s.cfg.units.map (·.defaultWp) := rfl
@[simp] theorem defaultTable_name (s : State) : (defaultTable s).name = s.cfg.units.map (·.defaultName) := rfl
@[simp] theorem defaultTable_dir_cursor (s : State) : (defaultTable s).dir_cursor = s.dir_cursor := rfl
@[simp] theorem defaultTable_files (s : State) : (defaultTable s).files = s.files := rfl
@[simp] theorem defaultTable_listing (s : State) : (defaultTable s).listing = s.listing := rfl
@[simp] theorem defaultTable_tx (s : State) : (defaultTable s).tx = s.tx := rfl
@[simp] theorem defaultTable_cfg (s : State) : (defaultTable s).cfg = s.cfg := rfl
@[simp] theorem defaultTable_rx (s : State) : (defaultTable s).rx = s.rx := rfl
@[simp] theorem defaultTable_env (s : State) : (defaultTable s).env = s.env := rfl
@[simp] theorem defaultTable_drawn (s : State) : (defaultTable s).drawn = s.drawn := rfl

/-! ### takeDraw -/

@[simp] theorem takeDraw_st (s : State) : (takeDraw s).st = s.st := rfl
@[simp] theorem takeDraw_cnt (s : State) : (takeDraw s).cnt = s.cnt := rfl
@[simp] theorem takeDraw_f_fmt (s : State) : (takeDraw s).f_fmt = s.f_fmt := rfl
@[simp] theorem takeDraw_f_did (s : State) : (takeDraw s).f_did = s.f_did := rfl
@[simp] theorem takeDraw_f_sid (s : State) : (takeDraw s).f_sid = s.f_sid := rfl
@[simp] theorem takeDraw_f_fnc (s : State) : (takeDraw s).f_fnc = s.f_fnc := rfl
@[simp] theorem takeDraw_f_siz (s : State) : (takeDraw s).f_siz = s.f_siz := rfl
@[simp] theorem takeDraw_cks (s : State) : (takeDraw s).cks = s.cks := rfl
@[simp] theorem takeDraw_txt (s : State) : (takeDraw s).txt = s.txt := rfl
@[simp] theorem takeDraw_lat_did (s : State) : (takeDraw s).lat_did = s.lat_did := rfl
@[simp] theorem takeDraw_lat_sid (s : State) : (takeDraw s).lat_sid = s.lat_sid := rfl
@[simp] theorem takeDraw_lat_fnc (s : State) : (takeDraw s).lat_fnc = s.lat_fnc := rfl
@[simp] theorem takeDraw_lat_siz (s : State) : (takeDraw s).lat_siz = s.lat_siz := rfl
@[simp] theorem takeDraw_lat_cks (s : State) : (takeDraw s).lat_cks = s.lat_cks := rfl
@[simp] theorem takeDraw_err_prev (s : State) : (takeDraw s).err_prev = s.err_prev := rfl
@[simp] theorem takeDraw_r_did (s : State) : (takeDraw s).r_did = s.r_did := rfl
@[simp] theorem takeDraw_r_sid (s : State) : (takeDraw s).r_sid = s.r_sid := rfl
@[simp] theorem takeDraw_r_fnc (s : State) : (takeDraw s).r_fnc = s.r_fnc := rfl
@[simp] theorem takeDraw_r_siz (s : State) : (takeDraw s).r_siz = s.r_siz := rfl
@[simp] theorem takeDraw_rtxt (s : State) : (takeDraw s).rtxt = s.rtxt := rfl
@[simp] theorem takeDraw_selected (s : State) : (takeDraw s).selected = s.selected := rfl
@[simp] theorem takeDraw_wp (s : State) : (takeDraw s).wp = s.wp := rfl
@[simp] theorem takeDraw_name (s : State) : (takeDraw s).name = s.name := rfl
@[simp] theorem takeDraw_dir_cursor (s : State) : (takeDraw s).dir_cursor = s.dir_cursor := rfl
@[simp] theorem takeDraw_files (s : State) : (takeDraw s).files = s.files := rfl
@[simp] theorem takeDraw_listing (s : State) : (takeDraw s).listing = s.listing := rfl
@[simp] theorem takeDraw_tx (s : State) : (takeDraw s).tx = s.tx := rfl
@[simp] theorem takeDraw_cfg (s : State) : (takeDraw s).cfg = s.cfg := rfl
@[simp] theorem takeDraw_rx (s : State) : (takeDraw s).rx = s.rx := rfl
@[simp] theorem takeDraw_env (s : State) : (takeDraw s).env = s.env.tail := rfl
@[simp] theorem takeDraw_drawn (s : State) : (takeDraw s).drawn = s.drawn + 1 := rfl

/-! ### storeSector -/

@[simp] theorem storeSector_st (u n : Nat) (m : Memory) (v : List Byte) (s : State) : (storeSector u n m v s).st = s.st := rfl
@[simp] theorem storeSector_cnt (u n : Nat) (m : Memory) (v : List Byte) (s : State) : (storeSector u n m v s).cnt = s.cnt := rfl
@[simp] theorem storeSector_f_fmt (u n : Nat) (m : Memory) (v : List Byte) (s : State) : (storeSector u n m v s).f_fmt = s.f_fmt := rfl
@[simp] theorem storeSector_f_did (u n : Nat) (m : Memory) (v : List Byte) (s : State) : (storeSector u n m v s).f_did = s.f_did := rfl
@[simp] theorem storeSector_f_sid (u n : Nat) (m : Memory) (v : List Byte) (s : State) : (storeSector u n m v s).f_sid = s.f_sid := rfl
@[simp] theorem storeSector_f_fnc (u n : Nat) (m : Memory) (v : List Byte) (s : State) : (storeSector u n m v s).f_fnc = s.f_fnc := rfl
@[simp] theorem storeSector_f_siz (u n : Nat) (m : Memory) (v : List Byte) (s : State) : (storeSector u n m v s).f_siz = s.f_siz := rfl
@[simp] theorem storeSector_cks (u n : Nat) (m : Memory) (v : List Byte) (s : State) : (storeSector u n m v s).cks = s.cks := rfl
@[simp] theorem storeSector_txt (u n : Nat) (m : Memory) (v : List Byte) (s : State) : (storeSector u n m v s).txt = s.txt := rfl
@[simp] theorem storeSector_lat_did (u n : Nat) (m : Memory) (v : List Byte) (s : State) : (storeSector u n m v s).lat_did = s.lat_did := rfl
@[simp] theorem storeSector_lat_sid (u n : Nat) (m : Memory) (v : List Byte) (s : State) : (storeSector u n m v s).lat_sid = s.lat_sid := rfl
@[simp] theorem storeSector_lat_fnc (u n : Nat) (m : Memory) (v : List Byte) (s : State) : (storeSector u n m v s).lat_fnc = s.lat_fnc := rfl
@[simp] theorem storeSector_lat_siz (u n : Nat) (m : Memory) (v : List Byte) (s : State) : (storeSector u n m v s).lat_siz = s.lat_siz := rfl
@[simp] theorem storeSector_lat_cks (u n : Nat) (m : Memory) (v : List Byte) (s : State) : (storeSector u n m v s).lat_cks = s.lat_cks := rfl
@[simp] theorem storeSector_err_prev (u n : Nat) (m : Memory) (v : List Byte) (s : State) : (storeSector u n m v s).err_prev = s.err_prev := rfl
@[simp] theorem storeSector_r_did (u n : Nat) (m : Memory) (v : List Byte) (s : State) : (storeSector u n m v s).r_did = s.r_did := rfl
@[simp] theorem storeSector_r_sid (u n : Nat) (m : Memory) (v : List Byte) (s : State) : (storeSector u n m v s).r_sid = s.r_sid := rfl
@[simp] theorem storeSector_r_fnc (u n : Nat) (m : Memory) (v : List Byte) (s : State) : (storeSector u n m v s).r_fnc = s.r_fnc := rfl
@[simp] theorem storeSector_r_siz (u n : Nat) (m : Memory) (v : List Byte) (s : State) : (storeSector u n m v s).r_siz = s.r_siz := rfl
@[simp] theorem storeSector_rtxt (u n : Nat) (m : Memory) (v : List Byte) (s : State) : (storeSector u n m v s).rtxt = s.rtxt := rfl
@[simp] theorem storeSector_selected (u n : Nat) (m : Memory) (v : List Byte) (s : State) : (storeSector u n m v s).selected = s.selected := rfl
@[simp] theorem storeSector_wp (u n : Nat) (m : Memory) (v : List Byte) (s : State) : (storeSector u n m v s).wp = s.wp := rfl
@[simp] theorem storeSector_name (u n : Nat) (m : Memory) (v : List Byte) (s : State) : (storeSector u n m v s).name = s.name := rfl
@[simp] theorem storeSector_dir_cursor (u n : Nat) (m : Memory) (v : List Byte) (s : State) : (storeSector u n m v s).dir_cursor = s.dir_cursor := rfl
@[simp] theorem storeSector_files (u n : Nat) (m : Memory) (v : List Byte) (s : State) : (storeSector u n m v s).files = Files.put s.files (unitName s u) (m.writeList s.cfg.newImageFill (128 * n) v) := rfl
@[simp] theorem storeSector_listing (u n : Nat) (m : Memory) (v : List Byte) (s : State) : (storeSector u n m v s).listing = s.listing := rfl
@[simp] theorem storeSector_tx (u n : Nat) (m : Memory) (v : List Byte) (s : State) : (storeSector u n m v s).tx = s.tx := rfl
@[simp] theorem storeSector_cfg (u n : Nat) (m : Memory) (v : List Byte) (s : State) : (storeSector u n m v s).cfg = s.cfg := rfl
@[simp] theorem storeSector_rx (u n : Nat) (m : Memory) (v : List Byte) (s : State) : (storeSector u n m v s).rx = s.rx := rfl
@[simp] theorem storeSector_env (u n : Nat) (m : Memory) (v : List Byte) (s : State) : (storeSector u n m v s).env = s.env := rfl
@[simp] theorem storeSector_drawn (u n : Nat) (m : Memory) (v : List Byte) (s : State) : (storeSector u n m v s).drawn = s.drawn := rfl

/-! ### acknowledgeRequest -/

@[simp] theorem acknowledgeRequest_st (s : State) : (acknowledgeRequest s).st = .ackWait := rfl
@[simp] theorem acknowledgeRequest_cnt (s : State) : (acknowledgeRequest s).cnt = s.cnt := rfl
@[simp] theorem acknowledgeRequest_f_fmt (s : State) : (acknowledgeRequest s).f_fmt = s.f_fmt := rfl
@[simp] theorem acknowledgeRequest_f_did (s : State) : (acknowledgeRequest s).f_did = s.f_did := rfl
@[simp] theorem acknowledgeRequest_f_sid (s : State) : (acknowledgeRequest s).f_sid = s.f_sid := rfl
@[simp] theorem acknowledgeRequest_f_fnc (s : State) : (acknowledgeRequest s).f_fnc = s.f_fnc := rfl
@[simp] theorem acknowledgeRequest_f_siz (s : State) : (acknowledgeRequest s).f_siz = s.f_siz := rfl
@[simp] theorem acknowledgeRequest_cks (s : State) : (acknowledgeRequest s).cks = s.cks := rfl
@[simp] theorem acknowledgeRequest_txt (s : State) : (acknowledgeRequest s).txt = s.txt := rfl
@[simp] theorem acknowledgeRequest_lat_did (s : State) : (acknowledgeRequest s).lat_did = s.lat_did := rfl
@[simp] theorem acknowledgeRequest_lat_sid (s : State) : (acknowledgeRequest s).lat_sid = s.lat_sid := rfl
@[simp] theorem acknowledgeRequest_lat_fnc (s : State) : (acknowledgeRequest s).lat_fnc = s.lat_fnc := rfl
@[simp] theorem acknowledgeRequest_lat_siz (s : State) : (acknowledgeRequest s).lat_siz = s.lat_siz := rfl
@[simp] theorem acknowledgeRequest_lat_cks (s : State) : (acknowledgeRequest s).lat_cks = s.lat_cks := rfl
@[simp] theorem acknowledgeRequest_err_prev (s : State) : (acknowledgeRequest s).err_prev = s.err_prev := rfl
@[simp] theorem acknowledgeRequest_r_did (s : State) : (acknowledgeRequest s).r_did = s.r_did := rfl
@[simp] theorem acknowledgeRequest_r_sid (s : State) : (acknowledgeRequest s).r_sid = s.r_sid := rfl
@[simp] theorem acknowledgeRequest_r_fnc (s : State) : (acknowledgeRequest s).r_fnc = s.r_fnc := rfl
@[simp] theorem acknowledgeRequest_r_siz (s : State) : (acknowledgeRequest s).r_siz = s.r_siz := rfl
@[simp] theorem acknowledgeRequest_rtxt (s : State) : (acknowledgeRequest s).rtxt = s.rtxt := rfl
@[simp] theorem acknowledgeRequest_selected (s : State) : (acknowledgeRequest s).selected = s.selected := rfl
@[simp] theorem acknowledgeRequest_wp (s : State) : (acknowledgeRequest s).wp = s.wp := rfl
@[simp] theorem acknowledgeRequest_name (s : State) : (acknowledgeRequest s).name = s.name := rfl
@[simp] theorem acknowledgeRequest_dir_cursor (s : State) : (acknowledgeRequest s).dir_cursor = s.dir_cursor := rfl
@[simp] theorem acknowledgeRequest_files (s : State) : (acknowledgeRequest s).files = s.files := rfl
@[simp] theorem acknowledgeRequest_listing (s : State) : (acknowledgeRequest s).listing = s.listing := rfl
@[simp] theorem acknowledgeRequest_tx (s : State) : (acknowledgeRequest s).tx = s.tx ++ [0x06] := rfl
@[simp] theorem acknowledgeRequest_cfg (s : State) : (acknowledgeRequest s).cfg = s.cfg := rfl
@[simp] theorem acknowledgeRequest_rx (s : State) : (acknowledgeRequest s).rx = s.rx := rfl
@[simp] theorem acknowledgeRequest_env (s : State) : (acknowledgeRequest s).env = s.env := rfl
@[simp] theorem acknowledgeRequest_drawn (s : State) : (acknowledgeRequest s).drawn = s.drawn := rfl

/-! ### noteChecksum -/

@[simp] theorem noteChecksum_st (b : Byte) (s : State) : (noteChecksum b s).st = s.st := rfl
@[simp] theorem noteChecksum_cnt (b : Byte) (s : State) : (noteChecksum b s).cnt = s.cnt := rfl
@[simp] theorem noteChecksum_f_fmt (b : Byte) (s : State) : (noteChecksum b s).f_fmt = s.f_fmt := rfl
@[simp] theorem noteChecksum_f_did (b : Byte) (s : State) : (noteChecksum b s).f_did = s.f_did := rfl
@[simp] theorem noteChecksum_f_sid (b : Byte) (s : State) : (noteChecksum b s).f_sid = s.f_sid := rfl
@[simp] theorem noteChecksum_f_fnc (b : Byte) (s : State) : (noteChecksum b s).f_fnc = s.f_fnc := rfl
@[simp] theorem noteChecksum_f_siz (b : Byte) (s : State) : (noteChecksum b s).f_siz = s.f_siz := rfl
@[simp] theorem noteChecksum_cks (b : Byte) (s : State) : (noteChecksum b s).cks = s.cks := rfl
@[simp] theorem noteChecksum_txt (b : Byte) (s : State) : (noteChecksum b s).txt = s.txt := rfl
@[simp] theorem noteChecksum_lat_did (b : Byte) (s : State) : (noteChecksum b s).lat_did = s.lat_did := rfl
@[simp] theorem noteChecksum_lat_sid (b : Byte) (s : State) : (noteChecksum b s).lat_sid = s.lat_sid := rfl
@[simp] theorem noteChecksum_lat_fnc (b : Byte) (s : State) : (noteChecksum b s).lat_fnc = s.lat_fnc := rfl
@[simp] theorem noteChecksum_lat_siz (b : Byte) (s : State) : (noteChecksum b s).lat_siz = s.lat_siz := rfl
@[simp] theorem noteChecksum_lat_cks (b : Byte) (s : State) : (noteChecksum b s).lat_cks = b := rfl
@[simp] theorem noteChecksum_err_prev (b : Byte) (s : State) : (noteChecksum b s).err_prev = s.err_prev := rfl
@[simp] theorem noteChecksum_r_did (b : Byte) (s : State) : (noteChecksum b s).r_did = s.r_did := rfl
@[simp] theorem noteChecksum_r_sid (b : Byte) (s : State) : (noteChecksum b s).r_sid = s.r_sid := rfl
@[simp] theorem noteChecksum_r_fnc (b : Byte) (s : State) : (noteChecksum b s).r_fnc = s.r_fnc := rfl
@[simp] theorem noteChecksum_r_siz (b : Byte) (s : State) : (noteChecksum b s).r_siz = s.r_siz := rfl
@[simp] theorem noteChecksum_rtxt (b : Byte) (s : State) : (noteChecksum b s).rtxt = s.rtxt := rfl
@[simp] theorem noteChecksum_selected (b : Byte) (s : State) : (noteChecksum b s).selected = s.selected := rfl
@[simp] theorem noteChecksum_wp (b : Byte) (s : State) : (noteChecksum b s).wp = s.wp := rfl
@[simp] theorem noteChecksum_name (b : Byte) (s : State) : (noteChecksum b s).name = s.name := rfl
@[simp] theorem noteChecksum_dir_cursor (b : Byte) (s : State) : (noteChecksum b s).dir_cursor = s.dir_cursor := rfl
@[simp] theorem noteChecksum_files (b : Byte) (s : State) : (noteChecksum b s).files = s.files := rfl
@[simp] theorem noteChecksum_listing (b : Byte) (s : State) : (noteChecksum b s).listing = s.listing := rfl
@[simp] theorem noteChecksum_tx (b : Byte) (s : State) : (noteChecksum b s).tx = s.tx := rfl
@[simp] theorem noteChecksum_cfg (b : Byte) (s : State) : (noteChecksum b s).cfg = s.cfg := rfl
@[simp] theorem noteChecksum_rx (b : Byte) (s : State) : (noteChecksum b s).rx = s.rx := rfl
@[simp] theorem noteChecksum_env (b : Byte) (s : State) : (noteChecksum b s).env = s.env := rfl
@[simp] theorem noteChecksum_drawn (b : Byte) (s : State) : (noteChecksum b s).drawn = s.drawn := rfl

end Sys2Proof.Machine
end

