-- ==== Sys2Proof/Laws/Memory.lean ====
section
/-! SUPPORT. Reading after writing, and the canonical form of an image and of the medium. -/

namespace Sys2Proof.Machine

namespace Memory

theorem read_of_lt {fill : Byte} {lo : Nat} {m : Memory} {a : Nat} (h : wfFrom fill lo m = true) (ha : a < lo) :
    read fill m a = fill := by
  induction m generalizing lo with
  | nil => rfl
  | cons c m ih =>
    obtain ⟨k, v⟩ := c
    simp only [wfFrom, Bool.and_eq_true, decide_eq_true_eq] at h
    have hk : ¬ k = a := by omega
    simp only [read, hk, if_false]
    exact ih h.2 (by omega)

theorem wfFrom_mono {fill : Byte} {lo lo' : Nat} {m : Memory} (h : wfFrom fill lo m = true) (hl : lo' ≤ lo) :
    wfFrom fill lo' m = true := by
  cases m with
  | nil => rfl
  | cons c m =>
    simp only [wfFrom, Bool.and_eq_true, decide_eq_true_eq] at h ⊢
    exact ⟨⟨⟨by omega, h.1.1.2⟩, h.1.2⟩, h.2⟩

theorem wfFrom_write {fill : Byte} {lo : Nat} {m : Memory} {a : Nat} {b : Byte} (h : wfFrom fill lo m = true)
    (hlo : lo ≤ a) (ha : a < Config.IMAGE_BYTES) : wfFrom fill lo (write fill m a b) = true := by
  induction m generalizing lo with
  | nil =>
    by_cases hb : b = fill
    · simp [write, hb, wfFrom]
    · simp_all [write, wfFrom]
  | cons c m ih =>
    obtain ⟨k, v⟩ := c
    simp only [wfFrom, Bool.and_eq_true, decide_eq_true_eq, bne_iff_ne, ne_eq] at h
    obtain ⟨⟨⟨h1, h2⟩, h3⟩, h4⟩ := h
    unfold write
    split
    · simp only [wfFrom, Bool.and_eq_true, decide_eq_true_eq, bne_iff_ne, ne_eq]
      exact ⟨⟨⟨h1, h2⟩, h3⟩, ih h4 (by omega)⟩
    · split
      · split
        · exact wfFrom_mono h4 (by omega)
        · rename_i hne
          subst k
          simp only [wfFrom, Bool.and_eq_true, decide_eq_true_eq, bne_iff_ne, ne_eq]
          exact ⟨⟨⟨h1, h2⟩, hne⟩, h4⟩
      · split
        · simp only [wfFrom, Bool.and_eq_true, decide_eq_true_eq, bne_iff_ne, ne_eq]
          exact ⟨⟨⟨h1, h2⟩, h3⟩, h4⟩
        · rename_i hne
          simp only [wfFrom, Bool.and_eq_true, decide_eq_true_eq, bne_iff_ne, ne_eq]
          exact ⟨⟨⟨hlo, ha⟩, hne⟩, ⟨⟨by omega, h2⟩, h3⟩, h4⟩

theorem read_write {fill : Byte} {lo : Nat} {m : Memory} (a : Nat) (b : Byte) (h : wfFrom fill lo m = true)
    (x : Nat) : read fill (write fill m a b) x = if x = a then b else read fill m x := by
  induction m generalizing lo with
  | nil =>
    by_cases hb : b = fill
    · simp [write, hb, read]
    · by_cases hx : x = a
      · simp [write, hb, read, hx]
      · have : ¬ a = x := fun e => hx e.symm
        simp [write, hb, read, hx, this]
  | cons c m ih =>
    obtain ⟨k, v⟩ := c
    simp only [wfFrom, Bool.and_eq_true, decide_eq_true_eq, bne_iff_ne, ne_eq] at h
    obtain ⟨⟨⟨h1, h2⟩, h3⟩, h4⟩ := h
    unfold write
    split
    · rename_i hka
      simp only [read, ih h4]
      by_cases hx : x = a
      · subst hx
        have : ¬ k = x := by omega
        simp [this]
      · simp [hx]
    · split
      · rename_i hka
        subst hka
        split
        · rename_i hb
          subst hb
          by_cases hx : x = k
          · subst hx
            simp [read_of_lt h4 (Nat.lt_succ_self x)]
          · have : ¬ k = x := fun e => hx e.symm
            simp [read, hx, this]
        · by_cases hx : x = k
          · subst hx
            simp [read]
          · have : ¬ k = x := fun e => hx e.symm
            simp [read, hx, this]
      · rename_i hlt hne
        have hxa : ∀ x, x = a → read fill ((k, v) :: m) x = fill := by
          intro x hx
          subst hx
          have hk : ¬ k = x := hne
          simp only [read, hk, if_false]
          exact read_of_lt h4 (by omega)
        split
        · rename_i hb
          subst hb
          by_cases hx : x = a
          · simp [hx, hxa a rfl]
          · simp [hx]
        · by_cases hx : x = a
          · subst hx
            simp [read]
          · have : ¬ a = x := fun e => hx e.symm
            simp [read, hx, this]

theorem wfFrom_writeList {fill : Byte} {lo : Nat} {m : Memory} {a : Nat} {bs : List Byte}
    (h : wfFrom fill lo m = true) (hlo : lo ≤ a) (ha : a + bs.length ≤ Config.IMAGE_BYTES) :
    wfFrom fill lo (writeList fill m a bs) = true := by
  induction bs generalizing m a with
  | nil => exact h
  | cons b bs ih =>
    simp only [List.length_cons] at ha
    exact ih (wfFrom_write h hlo (by omega)) (by omega) (by omega)

/-- A write of several bytes sets exactly those bytes. -/
theorem read_writeList {fill : Byte} {m : Memory} {a : Nat} {bs : List Byte}
    (h : wf fill m = true) (ha : a + bs.length ≤ Config.IMAGE_BYTES) (x : Nat) :
    read fill (writeList fill m a bs) x =
      if a ≤ x ∧ x < a + bs.length then bs.getD (x - a) 0 else read fill m x := by
  induction bs generalizing m a with
  | nil =>
    have : ¬ (a ≤ x ∧ x < a + ([] : List Byte).length) := by simp
    simp [writeList]
  | cons b bs ih =>
    simp only [List.length_cons] at ha ⊢
    rw [writeList, ih (wfFrom_write h (Nat.zero_le a) (by omega)) (by omega), read_write a b h]
    by_cases hx : x = a
    · subst hx
      simp
    · by_cases hr : a + 1 ≤ x ∧ x < a + 1 + bs.length
      · have h2 : a ≤ x ∧ x < a + (bs.length + 1) := by omega
        have h3 : x - a = (x - (a + 1)) + 1 := by omega
        simp only [hr, h2, and_self, if_true, h3, List.getD_cons_succ]
      · have h2 : ¬ (a ≤ x ∧ x < a + (bs.length + 1)) := by omega
        simp only [hr, h2, if_false, hx]

theorem wf_writeList {fill : Byte} {m : Memory} {a : Nat} {bs : List Byte} (h : wf fill m = true)
    (ha : a + bs.length ≤ Config.IMAGE_BYTES) : wf fill (writeList fill m a bs) = true :=
  wfFrom_writeList h (Nat.zero_le a) ha

theorem wf_nil (fill : Byte) : wf fill [] = true := rfl

@[simp] theorem length_readList (fill : Byte) (m : Memory) (a n : Nat) : (readList fill m a n).length = n := by
  simp [readList]

theorem getElem?_readList (fill : Byte) (m : Memory) (a n i : Nat) :
    (readList fill m a n)[i]? = if i < n then some (read fill m (a + i)) else none := by
  by_cases h : i < n <;> simp [readList, h]

/-- Two canonical images that read the same everywhere are the same data. -/
theorem eq_of_read_eq {fill : Byte} {lo : Nat} {m m' : Memory} (h : wfFrom fill lo m = true)
    (h' : wfFrom fill lo m' = true) (hr : ∀ a, read fill m a = read fill m' a) : m = m' := by
  induction m generalizing lo m' with
  | nil =>
    cases m' with
    | nil => rfl
    | cons c m' =>
      obtain ⟨k, v⟩ := c
      simp only [wfFrom, Bool.and_eq_true, bne_iff_ne, ne_eq] at h'
      have := hr k
      simp only [read, if_true] at this
      exact absurd this.symm h'.1.2
  | cons c m ih =>
    obtain ⟨k, v⟩ := c
    have hc := h
    simp only [wfFrom, Bool.and_eq_true, decide_eq_true_eq, bne_iff_ne, ne_eq] at h
    obtain ⟨⟨⟨h1, h2⟩, h3⟩, h4⟩ := h
    cases m' with
    | nil =>
      have := hr k
      simp only [read, if_true] at this
      exact absurd this h3
    | cons c' m' =>
      obtain ⟨k', v'⟩ := c'
      have hc' := h'
      simp only [wfFrom, Bool.and_eq_true, decide_eq_true_eq, bne_iff_ne, ne_eq] at h'
      obtain ⟨⟨⟨h1', h2'⟩, h3'⟩, h4'⟩ := h'
      have hk : k = k' := by
        rcases Nat.lt_trichotomy k k' with hlt | heq | hgt
        · have := hr k
          have hne : ¬ k' = k := by omega
          simp only [read, if_true, hne, if_false] at this
          rw [read_of_lt h4' (by omega)] at this
          exact absurd this h3
        · exact heq
        · have := hr k'
          have hne : ¬ k = k' := by omega
          simp only [read, if_true, hne, if_false] at this
          rw [read_of_lt h4 (by omega)] at this
          exact absurd this.symm h3'
      subst hk
      have hv : v = v' := by simpa [read] using hr k
      subst hv
      have : m = m' := by
        apply ih h4 h4'
        intro a
        by_cases ha : k = a
        · subst ha
          rw [read_of_lt h4 (Nat.lt_succ_self k), read_of_lt h4' (Nat.lt_succ_self k)]
        · simpa [read, ha] using hr a
      rw [this]

end Memory

/-! ## Names as numbers -/

theorem foldl_key_lt (l : List Byte) (a : Nat) :
    l.foldl (fun a b => 256 * a + b.toNat) a = 256 ^ l.length * a + l.foldl (fun a b => 256 * a + b.toNat) 0 := by
  induction l generalizing a with
  | nil => simp
  | cons b l ih =>
    simp only [List.foldl_cons, List.length_cons]
    rw [ih, ih (256 * 0 + b.toNat)]
    ring

theorem foldl_key_bound (l : List Byte) : l.foldl (fun a b => 256 * a + b.toNat) 0 < 256 ^ l.length := by
  induction l with
  | nil => simp
  | cons b l ih =>
    simp only [List.foldl_cons, List.length_cons]
    rw [foldl_key_lt]
    have hb := b.isLt
    have : b.toNat + 1 ≤ 256 := by omega
    calc 256 ^ l.length * (256 * 0 + b.toNat) + _ < 256 ^ l.length * (256 * 0 + b.toNat) + 256 ^ l.length := by omega
      _ = 256 ^ l.length * (b.toNat + 1) := by ring
      _ ≤ 256 ^ l.length * 256 := Nat.mul_le_mul_left _ this
      _ = 256 ^ (l.length + 1) := by ring

theorem foldl_key_inj {l l' : List Byte} (hl : l.length = l'.length)
    (h : l.foldl (fun a b => 256 * a + b.toNat) 0 = l'.foldl (fun a b => 256 * a + b.toNat) 0) : l = l' := by
  induction l generalizing l' with
  | nil => cases l' with
    | nil => rfl
    | cons _ _ => simp at hl
  | cons b l ih =>
    cases l' with
    | nil => simp at hl
    | cons b' l' =>
      simp only [List.length_cons, Nat.add_right_cancel_iff] at hl
      simp only [List.foldl_cons] at h
      rw [foldl_key_lt l, foldl_key_lt l', hl] at h
      have h1 := foldl_key_bound l
      have h2 := foldl_key_bound l'
      rw [hl] at h1
      have hb : b.toNat = b'.toNat := by
        simp only [Nat.mul_zero, Nat.zero_add] at h
        rcases Nat.lt_trichotomy b.toNat b'.toNat with hlt | heq | hgt
        · have := Nat.mul_le_mul_left (256 ^ l'.length) (show b.toNat + 1 ≤ b'.toNat from hlt)
          rw [Nat.mul_add] at this
          omega
        · exact heq
        · have := Nat.mul_le_mul_left (256 ^ l'.length) (show b'.toNat + 1 ≤ b.toNat from hgt)
          rw [Nat.mul_add] at this
          omega
      have : b = b' := BitVec.eq_of_toNat_eq hb
      subst this
      rw [ih hl (by omega)]

/-- Different names are different numbers. -/
theorem nameKey_inj {n n' : Name} (h : nameKey n = nameKey n') : n = n' := by
  have : n.toList = n'.toList := foldl_key_inj (by simp) h
  exact Vector.toList_inj.mp this

namespace Files

theorem find_none_of_lt {fill : Byte} {lo : Nat} {fs : List File} {n : Name} (h : wfFrom fill lo fs = true)
    (hn : nameKey n < lo) : find fs n = none := by
  induction fs generalizing lo with
  | nil => rfl
  | cons f fs ih =>
    simp only [wfFrom, Bool.and_eq_true, decide_eq_true_eq] at h
    have hf : ¬ f.name = n := by
      intro e
      rw [e] at h
      omega
    simp only [find, hf, if_false]
    exact ih h.2 (by omega)

theorem wf_of_find {fill : Byte} {lo : Nat} {fs : List File} {n : Name} {m : Memory}
    (h : wfFrom fill lo fs = true) (hf : find fs n = some m) : m.wf fill = true := by
  induction fs generalizing lo with
  | nil => simp [find] at hf
  | cons f fs ih =>
    simp only [wfFrom, Bool.and_eq_true, decide_eq_true_eq] at h
    by_cases e : f.name = n
    · simp only [find, e, if_true, Option.some.injEq] at hf
      exact hf ▸ h.1.2
    · simp only [find, e, if_false] at hf
      exact ih h.2 hf

theorem wfFrom_put {fill : Byte} {lo : Nat} {fs : List File} {n : Name} {m : Memory}
    (h : wfFrom fill lo fs = true) (hn : lo ≤ nameKey n) (hm : m.wf fill = true) :
    wfFrom fill lo (put fs n m) = true := by
  induction fs generalizing lo with
  | nil => simp [put, wfFrom, hn, hm]
  | cons f fs ih =>
    simp only [wfFrom, Bool.and_eq_true, decide_eq_true_eq] at h
    obtain ⟨⟨h1, h2⟩, h3⟩ := h
    unfold put
    split
    · simp only [wfFrom, Bool.and_eq_true, decide_eq_true_eq]
      exact ⟨⟨h1, h2⟩, ih h3 (by omega)⟩
    · split
      · rename_i he
        simp only [wfFrom, Bool.and_eq_true, decide_eq_true_eq]
        exact ⟨⟨hn, hm⟩, he ▸ h3⟩
      · simp only [wfFrom, Bool.and_eq_true, decide_eq_true_eq]
        exact ⟨⟨hn, hm⟩, ⟨by omega, h2⟩, h3⟩

/-- After `put`, the name has the new image and every other name what it had. -/
theorem find_put {fill : Byte} {lo : Nat} {fs : List File} (n : Name) (m : Memory)
    (h : wfFrom fill lo fs = true) (x : Name) : find (put fs n m) x = if x = n then some m else find fs x := by
  induction fs generalizing lo with
  | nil =>
    by_cases hx : x = n
    · simp [put, find, hx]
    · have : ¬ n = x := fun e => hx e.symm
      simp [put, find, hx, this]
  | cons f fs ih =>
    simp only [wfFrom, Bool.and_eq_true, decide_eq_true_eq] at h
    obtain ⟨⟨h1, h2⟩, h3⟩ := h
    unfold put
    split
    · rename_i hlt
      simp only [find, ih h3]
      by_cases hx : x = n
      · subst hx
        have : ¬ f.name = x := fun e => by rw [e] at hlt; omega
        simp [this]
      · simp [hx]
    · split
      · rename_i he
        have he := nameKey_inj he
        by_cases hx : x = n
        · simp [find, hx]
        · have : ¬ n = x := fun e => hx e.symm
          simp [find, hx, this, he]
      · by_cases hx : x = n
        · simp [find, hx]
        · have : ¬ n = x := fun e => hx e.symm
          simp [find, hx, this]

theorem wf_put {fill : Byte} {fs : List File} {n : Name} {m : Memory} (h : wf fill fs = true)
    (hm : m.wf fill = true) : wf fill (put fs n m) = true :=
  wfFrom_put h (Nat.zero_le _) hm

theorem wf_nil (fill : Byte) : wf fill [] = true := rfl

/-- Replacing a present image leaves the list of names as it is. -/
theorem names_put_of_find {fill : Byte} {lo : Nat} {fs : List File} {n : Name} {m m' : Memory}
    (h : wfFrom fill lo fs = true) (hf : find fs n = some m) :
    (put fs n m').map (·.name) = fs.map (·.name) := by
  induction fs generalizing lo with
  | nil => simp [find] at hf
  | cons f fs ih =>
    simp only [wfFrom, Bool.and_eq_true, decide_eq_true_eq] at h
    by_cases e : f.name = n
    · simp [put, e]
    · simp only [find, e, if_false] at hf
      have hlt : nameKey f.name < nameKey n := by
        by_contra hge
        have := find_none_of_lt (n := n) h.2 (by omega)
        rw [this] at hf
        cases hf
      simp [put, hlt, ih h.2 hf]

/-- Adding an absent image adds its name once. -/
theorem names_put_of_absent {fs : List File} {n : Name} {m : Memory}
    (hf : find fs n = none) : ((put fs n m).map (·.name)).Perm (n :: fs.map (·.name)) := by
  induction fs with
  | nil => simp [put]
  | cons f fs ih =>
    by_cases e : f.name = n
    · simp [find, e] at hf
    · simp only [find, e, if_false] at hf
      unfold put
      split
      · simp only [List.map_cons]
        exact ((ih hf).cons _).trans (List.Perm.swap _ _ _)
      · split
        · rename_i he
          exact absurd (nameKey_inj he) e
        · simp

theorem nodup_names {fill : Byte} {lo : Nat} {fs : List File} (h : wfFrom fill lo fs = true) :
    (fs.map (·.name)).Nodup ∧ ∀ n ∈ fs.map (·.name), lo ≤ nameKey n := by
  induction fs generalizing lo with
  | nil => simp
  | cons f fs ih =>
    simp only [wfFrom, Bool.and_eq_true, decide_eq_true_eq] at h
    obtain ⟨ih1, ih2⟩ := ih h.2
    constructor
    · simp only [List.map_cons, List.nodup_cons]
      refine ⟨fun hm => ?_, ih1⟩
      have := ih2 _ hm
      omega
    · intro n hn
      simp only [List.map_cons, List.mem_cons] at hn
      rcases hn with rfl | hn
      · exact h.1.1
      · have := ih2 n hn
        omega

end Files

/-- The medium at reset is in canonical form. -/
theorem reset_medium_wf : Files.wf State.reset.cfg.newImageFill State.reset.files = true := rfl

end Sys2Proof.Machine
end

