-- ==== Sys2Proof/Laws/Dispatch.lean ====
section
/-! SUPPORT. What each shared operation of the dispatcher can do, said once, and what no dispatch touches. -/

namespace Sys2Proof.Machine

/-! ## The two shared checks -/

theorem withSize_cases (k : Nat) (f : State → State) (s : State) :
    (s.f_siz.toNat = k ∧ withSize k f s = f s) ∨ (s.f_siz.toNat ≠ k ∧ withSize k f s = malformed s) := by
  by_cases h : s.f_siz.toNat = k
  · exact .inl ⟨h, by simp [withSize, h]⟩
  · exact .inr ⟨h, by simp [withSize, h]⟩

theorem withUnit_cases (f : Nat → State → State) (s : State) :
    (∃ u, targetUnit s = some u ∧ withUnit f s = f u s) ∨
    (targetUnit s = none ∧ withUnit f s = reply [Config.ST_SELECT_ERR] s) := by
  unfold withUnit
  cases h : targetUnit s with
  | none => exact .inr ⟨rfl, rfl⟩
  | some u => exact .inl ⟨u, rfl, rfl⟩

/-! ## The backend -/

theorem memRead_length {u n : Nat} {s : State} {d : List Byte} (h : memRead u n s = .data d) : d.length = 128 := by
  unfold memRead at h
  split at h
  · cases h
  · split at h
    · cases h
    · cases h
      simp

/-- The four ways `MemWrite` ends (R71, R72). -/
theorem memWrite_cases (u n : Nat) (v : List Byte) (s : State) :
    (unitWp s u = true ∧ memWrite u n v s = (.writeProtected, s)) ∨
    (unitWp s u = false ∧ 2560 ≤ n ∧ memWrite u n v s = (.outOfRange, s)) ∨
    (unitWp s u = false ∧ n < 2560 ∧ imageOf s u = none ∧ memWrite u n v s = (.ioError, s)) ∨
    (∃ m, unitWp s u = false ∧ n < 2560 ∧ imageOf s u = some m ∧
      (((nextDraw s).fails = true ∧
          memWrite u n v s = (.ioError, storeSector u n m (nextDraw s).left.toList (takeDraw s))) ∨
       ((nextDraw s).fails = false ∧ memWrite u n v s = (.ok, storeSector u n m v (takeDraw s))))) := by
  unfold memWrite
  cases hw : unitWp s u with
  | true => simp
  | false =>
    by_cases hn : 2560 ≤ n
    · simp [hn]
    · cases hi : imageOf s u with
      | none => simp [hn, Nat.lt_of_not_le hn]
      | some m => cases hf : (nextDraw s).fails <;> simp [hn, Nat.lt_of_not_le hn]

/-- The two ways `Create` ends (R74). -/
theorem createImage_cases (u : Nat) (s : State) :
    ((nextDraw s).fails = true ∧ createImage u s = (.ioError, takeDraw s)) ∨
    ((nextDraw s).fails = false ∧ createImage u s =
      (.ok, { takeDraw s with
                files := Files.put s.files (unitName s u) []
                listing := relist (Files.put s.files (unitName s u) []) (unitName s u) (nextDraw s) s.listing })) := by
  unfold createImage
  cases hf : (nextDraw s).fails <;> simp

/-! ## Replies -/

theorem toNat_length {R : List Byte} (h : R.length ≤ 129) : (BitVec.ofNat 8 R.length).toNat = R.length := by
  simp only [BitVec.toNat_ofNat]
  omega

theorem toList_overwrite {n : Nat} (R : List Byte) (v : Vector Byte n) (h : R.length ≤ n) :
    (overwrite R v).toList = R ++ v.toList.drop R.length := by
  apply List.ext_getElem
  · simp
    omega
  · intro i h1 h2
    have hi : i < n := by simpa using h1
    by_cases hR : i < R.length
    · simp [overwrite, hR]
    · simp only [overwrite, Vector.getElem_toList, Vector.getElem_ofFn, Fin.getElem_fin]
      rw [List.getElem_append_right (by omega)]
      have : R[i]? = none := by simp; omega
      simp only [List.getD_eq_getElem?_getD, this, Option.getD_none, List.getElem_drop, Vector.getElem_toList]
      congr 1
      omega

theorem take_overwrite {n : Nat} (R : List Byte) (v : Vector Byte n) (h : R.length ≤ n) :
    (overwrite R v).toList.take R.length = R := by
  rw [toList_overwrite R v h]
  simp

/-- The pending text after `Reply(R)` is `R` (R201). -/
theorem pendingText_reply {R : List Byte} (s : State) (h : R.length ≤ 129) : pendingText (reply R s) = R := by
  simp only [pendingText, reply_rtxt, reply_r_siz, toNat_length h]
  exact take_overwrite R s.rtxt h

theorem length_entryBytes (e : DirEntry) : (entryBytes e).length = 16 := by simp [entryBytes]

theorem length_entries (l : List DirEntry) : (l.flatMap entryBytes).length = 16 * l.length := by
  induction l with
  | nil => rfl
  | cons e l ih =>
    simp only [List.flatMap_cons, List.length_append, length_entryBytes, ih, List.length_cons]
    omega

theorem length_page_le (s : State) : (page s).length ≤ 8 := by
  simp only [page, pageCount, List.length_take, Config.DIR_ENTRIES_PER_MSG]
  omega

theorem length_readReply (r : ReadResult) (h : ∀ d, r = .data d → d.length = 128) :
    1 ≤ (readReply r).length ∧ (readReply r).length ≤ 129 := by
  cases r with
  | data d => simp [readReply, h d rfl]
  | notFound => simp [readReply]
  | outOfRange => simp [readReply]

/-! ## Closed effects (R210) -/

/-- `t` is `s` but for what a dispatch may write, and ends with an assembled reply. -/
structure Closed (s t : State) : Prop where
  same : t = { s with
          r_did := t.r_did, r_sid := t.r_sid, r_fnc := t.r_fnc, r_siz := t.r_siz, rtxt := t.rtxt
          selected := t.selected, wp := t.wp, name := t.name, dir_cursor := t.dir_cursor
          files := t.files, listing := t.listing, env := t.env, drawn := t.drawn }
  did : t.r_did = s.f_sid
  sid : t.r_sid = s.f_did
  fnc : t.r_fnc = s.f_fnc
  sizeLow : 1 ≤ t.r_siz.toNat
  sizeHigh : t.r_siz.toNat ≤ 129

theorem closed_reply {R : List Byte} {s t : State} (h : t = { s with
          selected := t.selected, wp := t.wp, name := t.name, dir_cursor := t.dir_cursor
          files := t.files, listing := t.listing, env := t.env, drawn := t.drawn })
    (h1 : 1 ≤ R.length) (h2 : R.length ≤ 129) : Closed s (reply R t) := by
  refine ⟨?_, ?_, ?_, ?_, ?_, ?_⟩
  · rw [h]
    rfl
  · rw [h]
    rfl
  · rw [h]
    rfl
  · rw [h]
    rfl
  · rw [reply_r_siz, toNat_length h2]
    exact h1
  · rw [reply_r_siz, toNat_length h2]
    exact h2

theorem closed_malformed (s : State) : Closed s (malformed s) := closed_reply rfl (by simp) (by simp)

theorem closed_withSize {k : Nat} {f : State → State} {s : State} (h : s.f_siz.toNat = k → Closed s (f s)) :
    Closed s (withSize k f s) := by
  rcases withSize_cases k f s with ⟨hk, e⟩ | ⟨_, e⟩
  · exact e ▸ h hk
  · exact e ▸ closed_malformed s

theorem closed_withUnit {f : Nat → State → State} {s : State} (h : ∀ u, Closed s (f u s)) :
    Closed s (withUnit f s) := by
  rcases withUnit_cases f s with ⟨u, _, e⟩ | ⟨_, e⟩
  · exact e ▸ h u
  · exact e ▸ closed_reply rfl (by simp) (by simp)

theorem closed_fnReset (s : State) : Closed s (fnReset s) :=
  closed_withSize fun _ => closed_reply rfl (by simp) (by simp)

theorem closed_fnSelect (s : State) : Closed s (fnSelect s) :=
  closed_withSize fun _ => closed_withUnit fun _ => closed_reply rfl (by simp) (by simp)

theorem closed_fnRead (s : State) : Closed s (fnRead s) :=
  closed_withSize fun _ => closed_withUnit fun u =>
    have h := length_readReply (memRead u (sectorNumber (requestText s)) s) fun _ e => memRead_length e
    closed_reply rfl h.1 h.2

theorem closed_fnWrite (s : State) : Closed s (fnWrite s) :=
  closed_withSize fun _ => closed_withUnit fun u => by
    rcases memWrite_cases u (sectorNumber (requestText s)) (sectorData (requestText s)) s with
      ⟨_, e⟩ | ⟨_, _, e⟩ | ⟨_, _, _, e⟩ | ⟨_, _, _, _, ⟨_, e⟩ | ⟨_, e⟩⟩ <;>
      simp only [e] <;> exact closed_reply rfl (by simp) (by simp)

theorem closed_fnFlush (s : State) : Closed s (fnFlush s) :=
  closed_withSize fun _ => closed_reply rfl (by simp) (by simp)

theorem length_dirReply (s : State) : (Config.ST_OK :: (page s).flatMap entryBytes).length ≤ 129 := by
  have := length_page_le s
  simp only [List.length_cons, length_entries]
  omega

theorem closed_fnImgDir (s : State) : Closed s (fnImgDir s) :=
  closed_withSize fun _ => by
    have h := length_dirReply s
    exact closed_reply (t := { s with dir_cursor := nextCursor s }) rfl (by simp) h

theorem closed_fnImgMount (s : State) : Closed s (fnImgMount s) :=
  closed_withSize fun _ => closed_withUnit fun _ => closed_reply rfl (by simp) (by simp)

theorem closed_fnImgCreate (s : State) : Closed s (fnImgCreate s) :=
  closed_withSize fun _ => closed_withUnit fun u => by
    split
    · exact closed_reply rfl (by simp) (by simp)
    · unfold createFresh
      rcases createImage_cases u s with ⟨_, e⟩ | ⟨_, e⟩ <;>
        rw [e] <;> exact closed_reply rfl (by simp) (by simp)

theorem closed_fnImgProtect (s : State) : Closed s (fnImgProtect s) :=
  closed_withSize fun _ => closed_withUnit fun _ => closed_reply rfl (by simp) (by simp)

theorem closed_fnImgDefaults (s : State) : Closed s (fnImgDefaults s) :=
  closed_withSize fun _ => closed_reply rfl (by simp) (by simp)

theorem closed_fnImg (s : State) : Closed s (fnImg s) := by
  unfold fnImg
  split
  · exact closed_malformed s
  · split
    · exact closed_fnImgDir s
    · exact closed_fnImgMount s
    · exact closed_fnImgCreate s
    · exact closed_fnImgProtect s
    · exact closed_fnImgDefaults s
    · exact closed_malformed s
    · exact closed_malformed s

/-- A dispatch writes only what R210 lets it. -/
theorem closed_dispatch (s : State) : Closed s (dispatch s) := by
  unfold dispatch
  split
  · exact closed_fnReset s
  · exact closed_fnSelect s
  · exact closed_fnRead s
  · exact closed_fnWrite s
  · exact closed_fnFlush s
  · exact closed_fnImg s
  · exact closed_malformed s
  · exact closed_malformed s

end Sys2Proof.Machine
end

