-- ==== Sys2Proof/Laws/Operands.lean ====
section
/-! SUPPORT. What each operand form and each lookup gives, and the two shared checks once their condition is known. -/

namespace Sys2Proof.Machine

/-! ## Lookup in the encoding tables -/

theorem mem_of_lookup {α β : Type} [BEq α] [LawfulBEq α] {l : List (α × β)} {a : α} {b : β}
    (h : l.lookup a = some b) : (a, b) ∈ l := by
  induction l with
  | nil => simp at h
  | cons x l ih =>
    obtain ⟨k, v⟩ := x
    rw [List.lookup_cons] at h
    split at h
    · rename_i e
      have := eq_of_beq e
      subst this
      cases h
      simp
    · exact List.mem_cons_of_mem _ (ih h)

theorem lookup_eq_none {α β : Type} [BEq α] [LawfulBEq α] {l : List (α × β)} {a : α}
    (h : a ∉ l.map (·.1)) : l.lookup a = none := by
  cases e : l.lookup a with
  | none => rfl
  | some b => exact absurd (List.mem_map_of_mem (f := (·.1)) (mem_of_lookup e)) h

theorem lookup_eq_some {α β : Type} [BEq α] [LawfulBEq α] {l : List (α × β)} {a : α} {b : β}
    (h : (a, b) ∈ l) (hn : (l.map (·.1)).Nodup) : l.lookup a = some b := by
  induction l with
  | nil => simp at h
  | cons x l ih =>
    obtain ⟨k, v⟩ := x
    rw [List.map_cons, List.nodup_cons] at hn
    rw [List.lookup_cons]
    rcases List.mem_cons.mp h with e | e
    · cases e
      simp
    · have : a ≠ k := by
        rintro rfl
        exact hn.1 (List.mem_map_of_mem (f := (·.1)) e)
      rw [beq_eq_false_iff_ne.mpr this]
      exact ih e hn.2

theorem mem_fncRows {b : Byte} {i : Instr} (h : decodeFnc b = .ok i) : (b, i) ∈ fncRows := by
  unfold decodeFnc at h
  split at h
  · rename_i hj
    cases h
    exact mem_of_lookup hj
  · cases h

theorem mem_imgRows {p : Params} {b : Byte} {i : Instr} (h : decodeImg p b = .ok i) : (b, i) ∈ imgRows p := by
  unfold decodeImg at h
  split at h
  · rename_i hj
    cases h
    exact mem_of_lookup hj
  · cases h

/-! ## The request text -/

theorem f_siz_eq_zero {s : State} : s.f_siz = 0 ↔ s.f_siz.toNat = 0 := by
  constructor
  · intro h
    rw [h]
    rfl
  · intro h
    exact BitVec.eq_of_toNat_eq h

theorem f_siz_pos {s : State} (h : s.f_siz ≠ 0) : 1 ≤ s.f_siz.toNat := by
  rcases Nat.eq_zero_or_pos s.f_siz.toNat with e | e
  · exact absurd (f_siz_eq_zero.mpr e) h
  · exact e

theorem f_siz_toNat {s : State} {k : Nat} {b : Byte} (h : s.f_siz = b) (hk : b.toNat = k := by rfl) :
    s.f_siz.toNat = k := by
  rw [h, hk]

theorem subOperation_requestText {s : State} (h : 1 ≤ s.f_siz.toNat) :
    subOperation (requestText s) = s.txt[0] := by
  unfold subOperation requestText
  rw [List.getD_eq_getElem?_getD, List.getElem?_take]
  simp [show 0 < s.f_siz.toNat from h]

theorem sectorNumber_requestText {s : State} (h : 2 ≤ s.f_siz.toNat) :
    sectorNumber (requestText s) = s.txt[0].toNat + 256 * s.txt[1].toNat := by
  unfold sectorNumber requestText
  rw [List.getD_eq_getElem?_getD, List.getD_eq_getElem?_getD, List.getElem?_take, List.getElem?_take]
  simp [show 0 < s.f_siz.toNat by omega, show 1 < s.f_siz.toNat by omega]

theorem sectorData_requestText {s : State} (h : s.f_siz.toNat = 130) :
    sectorData (requestText s) = (s.txt.toList.drop 2).take 128 := by
  unfold sectorData requestText
  rw [h, List.drop_take]
  simp

theorem nameOperand_requestText {s : State} (h : s.f_siz.toNat = 13) (i : Fin 12) :
    (nameOperand (requestText s))[i] = s.txt[i.val + 1] := by
  simp only [nameOperand, requestText, Fin.getElem_fin, Vector.getElem_ofFn, List.getD_eq_getElem?_getD,
    List.getElem?_take]
  rw [if_pos (by omega)]
  simp
  rw [Vector.getElem?_eq_getElem (by omega)]
  rfl

/-! ## The unit -/

theorem targetUnit_isSome_iff {s : State} : (∃ u, targetUnit s = some u) ↔ s.f_did ∈ s.cfg.unitIds := by
  unfold targetUnit unitIndex
  rw [← Option.isSome_iff_exists, List.isSome_idxOf?]

theorem targetUnit_eq_none {s : State} (h : s.f_did ∉ s.cfg.unitIds) : targetUnit s = none := by
  rw [← targetUnit_isSome_iff] at h
  cases e : targetUnit s
  · rfl
  · exact absurd ⟨_, e⟩ h

/-- `UnitIndex(b)` is the first position of `b` in `UNIT_IDS` (R14). -/
theorem unitIndex_eq_some {p : Params} {b : Byte} {u : Nat} (h1 : p.unitIds[u]? = some b)
    (h2 : ∀ v < u, p.unitIds[v]? ≠ some b) : unitIndex p b = some u := by
  unfold unitIndex
  rw [List.idxOf?, List.findIdx?_eq_some_iff_getElem]
  obtain ⟨hl, he⟩ := List.getElem?_eq_some_iff.mp h1
  refine ⟨hl, by simp [he], ?_⟩
  intro j hj hc
  apply h2 j hj
  rw [List.getElem?_eq_getElem (by omega)]
  simpa using hc

theorem targetUnit_lt {s : State} {u : Nat} (h : targetUnit s = some u) : u < s.cfg.nUnits := by
  unfold targetUnit unitIndex at h
  rw [List.idxOf?, List.findIdx?_eq_some_iff_getElem] at h
  obtain ⟨h, -⟩ := h
  simpa [Params.unitIds, Params.nUnits] using h

/-! ## The two shared checks -/

theorem withSize_of_eq {k : Nat} {f : State → State} {s : State} (h : s.f_siz.toNat = k) :
    withSize k f s = f s := by simp [withSize, h]

theorem withSize_of_ne {k : Nat} {f : State → State} {s : State} (h : s.f_siz.toNat ≠ k) :
    withSize k f s = malformed s := by simp [withSize, h]

theorem withUnit_some {f : Nat → State → State} {s : State} {u : Nat} (h : targetUnit s = some u) :
    withUnit f s = f u s := by simp [withUnit, h]

theorem withUnit_none {f : Nat → State → State} {s : State} (h : targetUnit s = none) :
    withUnit f s = reply [Config.ST_SELECT_ERR] s := by simp [withUnit, h]

/-! ## Dispatch and the meanings -/

/-- What a dispatch does is the meaning of the function that `f_fnc` names. -/
theorem exec_of_decodeFnc {s : State} {i : Instr} (h : decodeFnc s.f_fnc = .ok i) :
    exec i s = .next (dispatch s) := by
  have := mem_fncRows h
  unfold dispatch
  rw [h]
  simp [fncRows] at this
  rcases this with ⟨_, rfl⟩ | ⟨_, rfl⟩ | ⟨_, rfl⟩ | ⟨_, rfl⟩ | ⟨_, rfl⟩ | ⟨_, rfl⟩ <;> rfl

/-- What `IMG` does is the meaning of the sub-operation that `txt[0]` names. -/
theorem exec_img {s : State} {i : Instr} (h1 : 1 ≤ s.f_siz.toNat) (h : decodeImg s.cfg s.txt[0] = .ok i) :
    exec .img s = exec i s := by
  have := mem_imgRows h
  show Host.Outcome.next (fnImg s) = _
  unfold fnImg
  rw [if_neg (by rw [f_siz_eq_zero]; omega), subOperation_requestText h1, h]
  simp [imgRows] at this
  rcases this with ⟨_, rfl⟩ | ⟨_, rfl⟩ | ⟨_, rfl⟩ | ⟨_, rfl⟩ | ⟨_, rfl⟩ <;> rfl

theorem exec_write_of_size {s : State} {u : Nat} (hz : s.f_siz.toNat = 130) (hu : targetUnit s = some u) :
    exec .write s = .next
      (let r := memWrite u (sectorNumber (requestText s)) ((s.txt.toList.drop 2).take 128) s
       reply [writeStatus r.1] r.2) := by
  show Host.Outcome.next (fnWrite s) = _
  rw [fnWrite, withSize_of_eq hz, withUnit_some hu, sectorData_requestText hz]

/-! ## What a dispatch keeps -/

theorem not_mem_of_find_eq_none {fs : List File} {n : Name} (h : Files.find fs n = none) :
    n ∉ fs.map (·.name) := by
  induction fs with
  | nil => simp
  | cons f fs ih =>
    rw [Files.find] at h
    split at h
    · cases h
    · rename_i hne
      simp only [List.map_cons, List.mem_cons, not_or]
      exact ⟨fun e => hne e.symm, ih h⟩

/-- A new listing is legal for the new medium, whatever the environment proposes (R75). -/
theorem legalListing_relist {fs : List File} {n : Name} {m : Memory} {d : Draw} {old : List DirEntry}
    (h : Files.find fs n = none) (hl : legalListing fs old = true) :
    legalListing (Files.put fs n m) (relist (Files.put fs n m) n d old) = true := by
  unfold relist
  split
  · assumption
  · have := Files.names_put_of_absent (m := m) h
    unfold legalListing at *
    rw [List.isPerm_iff] at *
    rw [List.map_append]
    refine (List.perm_append_comm.trans ?_)
    exact (List.Perm.cons n hl).trans this.symm

/-- The parts of the invariant that a dispatch can touch. -/
structure Keeps (s t : State) : Prop where
  cursor : s.dir_cursor % 8 = 0 → t.dir_cursor % 8 = 0
  selectedUnit : (∀ u, s.selected = some u → u < s.cfg.nUnits) → ∀ u, t.selected = some u → u < s.cfg.nUnits
  wpTable : s.wp.length = s.cfg.nUnits → t.wp.length = s.cfg.nUnits
  nameTable : s.name.length = s.cfg.nUnits → t.name.length = s.cfg.nUnits
  medium : Files.wf s.cfg.newImageFill s.files = true → Files.wf s.cfg.newImageFill t.files = true
  directory : Files.wf s.cfg.newImageFill s.files = true → legalListing s.files s.listing = true →
    legalListing t.files t.listing = true

theorem keeps_of {s t : State}
    (h1 : t.dir_cursor = s.dir_cursor ∨ t.dir_cursor = 0 ∨ t.dir_cursor = s.dir_cursor + 8)
    (h2 : t.selected = s.selected ∨ t.selected = none)
    (h3 : t.wp.length = s.wp.length ∨ t.wp.length = s.cfg.nUnits)
    (h4 : t.name.length = s.name.length ∨ t.name.length = s.cfg.nUnits)
    (h5 : t.files = s.files) (h6 : t.listing = s.listing) : Keeps s t := by
  refine ⟨?_, ?_, ?_, ?_, ?_, ?_⟩
  · intro h
    rcases h1 with e | e | e <;> omega
  · intro h
    rcases h2 with e | e <;> rw [e]
    · exact h
    · intro u hu
      cases hu
  · intro h
    rcases h3 with e | e <;> omega
  · intro h
    rcases h4 with e | e <;> omega
  · rw [h5]
    exact id
  · rw [h5, h6]
    exact fun _ => id

theorem keeps_reply (s : State) (R : List Byte) : Keeps s (reply R s) :=
  keeps_of (.inl rfl) (.inl rfl) (.inl rfl) (.inl rfl) rfl rfl

theorem keeps_withSize {k : Nat} {f : State → State} {s : State} (h : s.f_siz.toNat = k → Keeps s (f s)) :
    Keeps s (withSize k f s) := by
  rcases withSize_cases k f s with ⟨hk, e⟩ | ⟨_, e⟩
  · exact e ▸ h hk
  · exact e ▸ keeps_reply s _

theorem keeps_withUnit {f : Nat → State → State} {s : State} (h : ∀ u, targetUnit s = some u → Keeps s (f u s)) :
    Keeps s (withUnit f s) := by
  rcases withUnit_cases f s with ⟨u, hu, e⟩ | ⟨_, e⟩
  · exact e ▸ h u hu
  · exact e ▸ keeps_reply s _

theorem keeps_fnWrite (s : State) : Keeps s (fnWrite s) := keeps_withSize fun hz => keeps_withUnit fun u _ => by
  rw [sectorData_requestText hz]
  rcases memWrite_cases u (sectorNumber (requestText s)) ((s.txt.toList.drop 2).take 128) s with
    ⟨_, e⟩ | ⟨_, _, e⟩ | ⟨_, _, _, e⟩ | ⟨m, h1, h2, h3, h4⟩
  · simp only [e]
    exact keeps_reply s _
  · simp only [e]
    exact keeps_reply s _
  · simp only [e]
    exact keeps_reply s _
  · have : ∀ v b, v.length = 128 →
        Keeps s (reply [b] (storeSector u (sectorNumber (requestText s)) m v (takeDraw s))) := by
      intro v b hv
      refine ⟨id, id, id, id, ?_, ?_⟩
      · intro hw
        exact Files.wf_put hw (Memory.wf_writeList (Files.wf_of_find hw h3) (by simp [hv]; omega))
      · intro hw hl
        have e := Files.names_put_of_find (m' := m.writeList s.cfg.newImageFill
          (Config.SECTOR_BYTES * sectorNumber (requestText s)) v) hw h3
        exact (congrArg (fun l => (s.listing.map DirEntry.name).isPerm l) e).trans hl
    rcases h4 with ⟨_, e⟩ | ⟨_, e⟩ <;> simp only [e] <;> exact this _ _ (by simp)

theorem find_eq_none_of_not_exists {s : State} {u : Nat} (h : ¬ imageExists u s = true) :
    Files.find s.files (unitName s u) = none := by
  unfold imageExists imageOf at h
  cases e : Files.find s.files (unitName s u) <;> simp_all

theorem keeps_fnImgCreate (s : State) : Keeps s (fnImgCreate s) :=
  keeps_withSize fun _ => keeps_withUnit fun u _ => by
    split
    · exact keeps_reply s _
    · rename_i h
      have h2 := find_eq_none_of_not_exists h
      unfold createFresh
      rcases createImage_cases u s with ⟨_, e⟩ | ⟨_, e⟩ <;> rw [e]
      · exact keeps_of (.inl rfl) (.inl rfl) (.inl rfl) (.inl rfl) rfl rfl
      · refine ⟨fun _ => rfl, id, id, id, ?_, ?_⟩
        · intro hw
          exact Files.wf_put hw rfl
        · intro hw hl
          exact legalListing_relist h2 hl

theorem keeps_fnImg (s : State) : Keeps s (fnImg s) := by
  unfold fnImg
  split
  · exact keeps_reply s _
  · split
    · exact keeps_withSize fun _ => by
        refine keeps_of ?_ (.inl rfl) (.inl rfl) (.inl rfl) rfl rfl
        show nextCursor s = _ ∨ _
        unfold nextCursor
        split
        · exact .inr (.inr rfl)
        · exact .inr (.inl rfl)
    · exact keeps_withSize fun _ => keeps_withUnit fun u _ =>
        keeps_of (.inl rfl) (.inl rfl) (.inl rfl) (.inl (by simp [reply, mount])) rfl rfl
    · exact keeps_fnImgCreate s
    · exact keeps_withSize fun _ => keeps_withUnit fun u _ =>
        keeps_of (.inl rfl) (.inl rfl) (.inl (by simp [reply, toggleProtect])) (.inl rfl) rfl rfl
    · exact keeps_withSize fun _ =>
        keeps_of (.inr (.inl rfl)) (.inl rfl) (.inr (by simp [reply, defaultTable, Params.nUnits]))
          (.inr (by simp [reply, defaultTable, Params.nUnits])) rfl rfl
    · exact keeps_reply s _
    · exact keeps_reply s _

theorem keeps_dispatch (s : State) : Keeps s (dispatch s) := by
  unfold dispatch
  split
  · exact keeps_withSize fun _ => keeps_of (.inr (.inl rfl)) (.inr rfl) (.inl rfl) (.inl rfl) rfl rfl
  · exact keeps_withSize fun _ => keeps_withUnit fun u hu =>
      ⟨id, fun _ v hv => by cases hv; exact targetUnit_lt hu, id, id, id, fun _ => id⟩
  · exact keeps_withSize fun _ => keeps_withUnit fun _ _ => keeps_reply s _
  · exact keeps_fnWrite s
  · exact keeps_withSize fun _ => keeps_reply s _
  · exact keeps_fnImg s
  · exact keeps_reply s _
  · exact keeps_reply s _

end Sys2Proof.Machine
end

