-- ==== Sys2Proof/Laws/Receive.lean ====
section
/-! SUPPORT. The transition for each state, what a transition never looks at, and runs over a queue of bytes. -/

namespace Sys2Proof.Machine

/-! ## Start characters -/

theorem startFrame_sel (s : State) : startFrame 0x31 s = some { clearFrame s with st := .selDid } := rfl

theorem startFrame_soh (s : State) : startFrame 0x01 s = some { clearFrame s with st := .hdrFmt } := rfl

theorem startFrame_other {b : Byte} (s : State) (h1 : b ≠ 0x01) (h2 : b ≠ 0x31) : startFrame b s = none := by
  unfold startFrame
  rw [if_neg h2, if_neg h1]

/-! ## The rule of each state -/

theorem receive_idle {s : State} (b : Byte) (h : s.st = .idle) : receive b s = rxIdle b s := by simp [receive, h]
theorem receive_selDid {s : State} (b : Byte) (h : s.st = .selDid) : receive b s = rxSelDid b s := by simp [receive, h]
theorem receive_selSid {s : State} (b : Byte) (h : s.st = .selSid) : receive b s = rxSelSid b s := by simp [receive, h]
theorem receive_selEnq {s : State} (b : Byte) (h : s.st = .selEnq) : receive b s = rxSelEnq b s := by simp [receive, h]
theorem receive_hdrSoh {s : State} (b : Byte) (h : s.st = .hdrSoh) : receive b s = rxHdrSoh b s := by simp [receive, h]
theorem receive_hdrFmt {s : State} (b : Byte) (h : s.st = .hdrFmt) : receive b s = rxHdrFmt b s := by simp [receive, h]
theorem receive_hdrDid {s : State} (b : Byte) (h : s.st = .hdrDid) : receive b s = rxHdrDid b s := by simp [receive, h]
theorem receive_hdrSid {s : State} (b : Byte) (h : s.st = .hdrSid) : receive b s = rxHdrSid b s := by simp [receive, h]
theorem receive_hdrFnc {s : State} (b : Byte) (h : s.st = .hdrFnc) : receive b s = rxHdrFnc b s := by simp [receive, h]
theorem receive_hdrSiz {s : State} (b : Byte) (h : s.st = .hdrSiz) : receive b s = rxHdrSiz b s := by simp [receive, h]
theorem receive_hdrCks {s : State} (b : Byte) (h : s.st = .hdrCks) : receive b s = rxHdrCks b s := by simp [receive, h]
theorem receive_txtStx {s : State} (b : Byte) (h : s.st = .txtStx) : receive b s = rxTxtStx b s := by simp [receive, h]
theorem receive_txtBody {s : State} (b : Byte) (h : s.st = .txtBody) : receive b s = rxTxtBody b s := by
  simp [receive, h]
theorem receive_txtEtx {s : State} (b : Byte) (h : s.st = .txtEtx) : receive b s = rxTxtEtx b s := by simp [receive, h]
theorem receive_txtCks {s : State} (b : Byte) (h : s.st = .txtCks) : receive b s = rxTxtCks b s := by simp [receive, h]
theorem receive_ackWait {s : State} (b : Byte) (h : s.st = .ackWait) : receive b s = rxAckWait b s := by
  simp [receive, h]
theorem receive_replyHeaderSent {s : State} (b : Byte) (h : s.st = .replyHeaderSent) :
    receive b s = rxReplyHeaderSent b s := by simp [receive, h]
theorem receive_replyTextSent {s : State} (b : Byte) (h : s.st = .replyTextSent) :
    receive b s = rxReplyTextSent b s := by simp [receive, h]
theorem receive_error {s : State} (b : Byte) (h : s.st = .error) : receive b s = rxError b s := by simp [receive, h]

/-! ## A transition never looks at the events still to come -/

/-- `s` with `r` as the events still to come. -/
def withRx (r : List Event) (s : State) : State := { s with rx := r }

theorem withSize_withRx {k : Nat} {f : State → State} {s : State} {r : List Event}
    (h : f (withRx r s) = withRx r (f s)) : withSize k f (withRx r s) = withRx r (withSize k f s) := by
  unfold withSize
  by_cases hk : s.f_siz.toNat = k
  · have hk' : (withRx r s).f_siz.toNat = k := hk
    simp [hk, hk', h]
  · have hk' : ¬ (withRx r s).f_siz.toNat = k := hk
    simp only [hk, hk', if_false]
    rfl

theorem withUnit_withRx {f : Nat → State → State} {s : State} {r : List Event}
    (h : ∀ u, f u (withRx r s) = withRx r (f u s)) : withUnit f (withRx r s) = withRx r (withUnit f s) := by
  unfold withUnit
  have e : targetUnit (withRx r s) = targetUnit s := rfl
  rw [e]
  cases targetUnit s with
  | none => rfl
  | some u => exact h u

theorem memWrite_withRx (u n : Nat) (v : List Byte) (r : List Event) (s : State) :
    memWrite u n v (withRx r s) = ((memWrite u n v s).1, withRx r (memWrite u n v s).2) := by
  have e1 : unitWp (withRx r s) u = unitWp s u := rfl
  have e2 : imageOf (withRx r s) u = imageOf s u := rfl
  have e3 : nextDraw (withRx r s) = nextDraw s := rfl
  unfold memWrite
  rw [e1, e2, e3]
  split
  · rfl
  · split
    · rfl
    · split
      · rfl
      · split <;> rfl

theorem createFresh_withRx (u : Nat) (r : List Event) (s : State) :
    createFresh u (withRx r s) = withRx r (createFresh u s) := by
  have e : nextDraw (withRx r s) = nextDraw s := rfl
  unfold createFresh createImage
  rw [e]
  cases (nextDraw s).fails <;> rfl

theorem dispatch_withRx (r : List Event) (s : State) : dispatch (withRx r s) = withRx r (dispatch s) := by
  have e : (withRx r s).f_fnc = s.f_fnc := rfl
  unfold dispatch
  rw [e]
  split
  · exact withSize_withRx rfl
  · exact withSize_withRx (withUnit_withRx fun _ => rfl)
  · exact withSize_withRx (withUnit_withRx fun _ => rfl)
  · refine withSize_withRx (withUnit_withRx fun u => ?_)
    have e := memWrite_withRx u (sectorNumber (requestText s)) (sectorData (requestText s)) r s
    have e' : requestText (withRx r s) = requestText s := rfl
    simp only [e', e]
    rfl
  · exact withSize_withRx rfl
  · unfold fnImg
    have e1 : (withRx r s).f_siz = s.f_siz := rfl
    have e2 : (withRx r s).cfg = s.cfg := rfl
    have e3 : requestText (withRx r s) = requestText s := rfl
    rw [e1, e2, e3]
    split
    · rfl
    · split
      · exact withSize_withRx rfl
      · exact withSize_withRx (withUnit_withRx fun _ => rfl)
      · refine withSize_withRx (withUnit_withRx fun u => ?_)
        have e : imageExists u (withRx r s) = imageExists u s := rfl
        rw [e]
        split
        · rfl
        · exact createFresh_withRx u r s
      · exact withSize_withRx (withUnit_withRx fun _ => rfl)
      · exact withSize_withRx rfl
      · rfl
      · rfl
  · rfl
  · rfl

theorem startFrame_withRx (b : Byte) (r : List Event) (s : State) :
    startFrame b (withRx r s) = (startFrame b s).map (withRx r) := by
  unfold startFrame
  split
  · rfl
  · split <;> rfl

theorem receive_withRx (b : Byte) (r : List Event) (s : State) :
    receive b (withRx r s) = withRx r (receive b s) := by
  have e : (withRx r s).st = s.st := rfl
  unfold receive
  rw [e]
  split
  · unfold rxIdle
    rw [startFrame_withRx]
    cases startFrame b s <;> rfl
  · rfl
  · rfl
  · unfold rxSelEnq
    have e : targetUnit (withRx r s) = targetUnit s := rfl
    rw [e]
    split
    · cases targetUnit s <;> rfl
    · rfl
  · unfold rxHdrSoh
    split <;> rfl
  · unfold rxHdrFmt
    split <;> rfl
  · rfl
  · rfl
  · rfl
  · rfl
  · unfold rxHdrCks
    have e1 : checksumMatches (withRx r s) b = checksumMatches s b := rfl
    have e2 : noteChecksum b (withRx r s) = withRx r (noteChecksum b s) := rfl
    have e3 : (withRx r s).f_siz = s.f_siz := rfl
    rw [e1, e2, e3]
    split
    · split
      · rw [dispatch_withRx]
        rfl
      · rfl
    · rfl
  · unfold rxTxtStx
    split <;> rfl
  · rfl
  · unfold rxTxtEtx
    split <;> rfl
  · unfold rxTxtCks
    have e1 : checksumMatches (withRx r s) b = checksumMatches s b := rfl
    have e2 : noteChecksum b (withRx r s) = withRx r (noteChecksum b s) := rfl
    rw [e1, e2]
    split
    · rw [dispatch_withRx]
      rfl
    · rfl
  · unfold rxAckWait
    split <;> rfl
  · unfold rxReplyHeaderSent
    split <;> rfl
  · unfold rxReplyTextSent
    split <;> rfl
  · unfold rxError
    rw [startFrame_withRx]
    cases startFrame b s <;> rfl

/-! ## Bytes and steps -/

/-- A byte that is a control character is received like any other: its instruction is its transition. -/
theorem runByte_eq (b : Byte) (s : State) : runByte b s = .next (receive b s) := by
  by_cases h1 : b = 0x01
  · subst h1; rfl
  by_cases h2 : b = 0x02
  · subst h2; rfl
  by_cases h3 : b = 0x03
  · subst h3; rfl
  by_cases h4 : b = 0x04
  · subst h4; rfl
  by_cases h5 : b = 0x05
  · subst h5; rfl
  by_cases h6 : b = 0x06
  · subst h6; rfl
  by_cases h7 : b = 0x15
  · subst h7; rfl
  by_cases h8 : b = 0x31
  · subst h8; rfl
  have e : decodeCtl b = .error (.notControl b) := by
    have q : ∀ c : Byte, b ≠ c → (b == c) = false := fun c hc => by simp [hc]
    simp only [decodeCtl, ctlRows, List.lookup, q Config.SOH h1, q Config.STX h2, q Config.ETX h3, q Config.EOT h4,
      q Config.ENQ h5, q Config.ACK h6, q Config.NAK h7, q Config.SEL h8]
  simp [runByte, e]

/-- One step over a queue that starts with a byte. -/
theorem step_rxByte {s : State} {b : Byte} {rest : List Event} (h : s.rx = .rxByte b :: rest) :
    step s = .next (receive b (withRx rest s)) := by
  simp only [step, runNext, h, runEvent, runByte_eq]
  rfl

theorem step_timeout {s : State} {rest : List Event} (h : s.rx = .timeout :: rest) :
    step s = .next (timeout (withRx rest s)) := by
  simp only [step, runNext, h, runEvent]
  rfl

theorem step_hwReset {s : State} {rest : List Event} (h : s.rx = .hwReset :: rest) :
    step s = .next (hwReset (withRx rest s)) := by
  simp only [step, runNext, h, runEvent]
  rfl

theorem step_nothing {s : State} (h : s.rx = []) : step s = .next s := by simp [step, runNext, h]

/-- As many steps as there are bytes receive them all. -/
theorem run_bytes (bytes : List Byte) (s : State) (rest : List Event)
    (h : s.rx = bytes.map .rxByte ++ rest) :
    Host.Core.run Sys2Proof.core bytes.length s = .next (receiveAll bytes (withRx rest s)) := by
  induction bytes generalizing s with
  | nil =>
    have : withRx rest s = s := by
      have h : s.rx = rest := h
      rw [← h]
      rfl
    simp only [List.length_nil, Host.Core.run, receiveAll, List.foldl_nil, this]
  | cons b bytes ih =>
    have hs := step_rxByte (b := b) (rest := bytes.map .rxByte ++ rest) (s := s) (by simpa using h)
    have hx : (receive b (withRx (bytes.map .rxByte ++ rest) s)).rx = bytes.map .rxByte ++ rest := by
      rw [receive_withRx]
      rfl
    have hc : Sys2Proof.core.step s = .next (receive b (withRx (bytes.map .rxByte ++ rest) s)) := hs
    simp only [List.length_cons, Host.Core.run, hc]
    rw [ih _ hx, receive_withRx]
    have e : withRx rest (withRx (bytes.map .rxByte ++ rest) (receive b s)) = receive b (withRx rest s) := by
      rw [receive_withRx]
      rfl
    rw [e]
    rfl

end Sys2Proof.Machine
end

