-- ==== Sys2Proof/Laws/Frames.lean ====
section
/-! SUPPORT. What the bytes of a frame do up to the last one. -/

namespace Sys2Proof.Machine

@[simp] theorem receiveAll_nil (s : State) : receiveAll [] s = s := rfl

@[simp] theorem receiveAll_cons (b : Byte) (l : List Byte) (s : State) :
    receiveAll (b :: l) s = receiveAll l (receive b s) := rfl

theorem receiveAll_append (l l' : List Byte) (s : State) :
    receiveAll (l ++ l') s = receiveAll l' (receiveAll l s) := by simp [receiveAll]

@[simp] theorem dispatch_tx (s : State) : (dispatch s).tx = s.tx := by rw [(closed_dispatch s).same]

@[simp] theorem dispatch_cfg (s : State) : (dispatch s).cfg = s.cfg := by rw [(closed_dispatch s).same]

@[simp] theorem dispatch_err_prev (s : State) : (dispatch s).err_prev = s.err_prev := by
  rw [(closed_dispatch s).same]

@[simp] theorem dispatch_f_fmt (s : State) : (dispatch s).f_fmt = s.f_fmt := by rw [(closed_dispatch s).same]

/-- A start-of-header where a header may start. -/
theorem receive_soh_start {s : State} (h : s.st = .idle ∨ s.st = .error ∨ s.st = .hdrSoh) :
    receive 0x01 s = { clearFrame s with st := .hdrFmt } := by
  rcases h with h | h | h
  · rw [receive_idle _ h]
    rfl
  · rw [receive_error _ h]
    rfl
  · rw [receive_hdrSoh _ h]
    rfl

/-- The state before the checksum byte of a request header. -/
def headerReceived (did sid fnc siz : Byte) (s : State) : State :=
  { s with
    st := .hdrCks
    f_fmt := 0, f_did := did, f_sid := sid, f_fnc := fnc, f_siz := siz, cnt := 0
    cks := headerCks 0x00 did sid fnc siz
    lat_did := did, lat_sid := sid, lat_fnc := fnc, lat_siz := siz }

theorem headerCks_eq_sum (did sid fnc siz : Byte) :
    headerCks 0x00 did sid fnc siz = 0 + 0 + did + sid + fnc + siz := by
  apply BitVec.eq_of_toNat_eq
  simp [headerCks, sum8, BitVec.toNat_add]
  omega

theorem exec_hdr {s : State} {did sid fnc siz c : Byte} (h : s.st = .idle ∨ s.st = .error ∨ s.st = .hdrSoh) :
    exec (.hdr did sid fnc siz c) s = .next (receive c (headerReceived did sid fnc siz s)) := by
  show Host.Outcome.next (receive c (receive siz (receive fnc (receive sid (receive did (receive 0x00
    (receive 0x01 s))))))) = _
  rw [receive_soh_start h]
  unfold headerReceived
  rw [headerCks_eq_sum]
  rfl

theorem toNat_cnt_succ {s : State} (h : s.cnt.toNat < s.f_siz.toNat) : (s.cnt + 1).toNat = s.cnt.toNat + 1 := by
  have := s.f_siz.isLt
  rw [BitVec.toNat_add]
  simp
  omega

theorem cnt_succ_eq_iff {s : State} (h : s.cnt.toNat < s.f_siz.toNat) :
    s.cnt + 1 = s.f_siz ↔ s.cnt.toNat + 1 = s.f_siz.toNat := by
  rw [← toNat_cnt_succ h]
  exact BitVec.toNat_inj.symm

/-- One more body byte received (R163): the text so far grows by it. -/
theorem take_rxTxtBody {s : State} (b : Byte) (h : s.cnt.toNat < s.f_siz.toNat) :
    (rxTxtBody b s).txt.toList.take (s.cnt.toNat + 1) = s.txt.toList.take s.cnt.toNat ++ [b] := by
  have hfs := s.f_siz.isLt
  show (s.txt.setIfInBounds s.cnt.toNat b).toList.take (s.cnt.toNat + 1) = _
  rw [Vector.toList_setIfInBounds, List.take_set, List.take_add_one]
  have h1 : s.cnt.toNat < s.txt.toList.length := by
    simp
    omega
  rw [List.getElem?_eq_getElem h1]
  simp
  have h2 : s.cnt.toNat - min s.cnt.toNat 255 = 0 := by omega
  simp [h2]

theorem sum8_append (l l' : List Byte) : sum8 (l ++ l') = sum8 l + sum8 l' := by
  apply BitVec.eq_of_toNat_eq
  simp [sum8, BitVec.toNat_add]

/-- The rest of a body (R163): counted, stored, summed. -/
theorem receiveAll_body (body : List Byte) (s : State) (h : s.st = .txtBody)
    (hc : s.cnt.toNat + body.length = s.f_siz.toNat) (h1 : 1 ≤ body.length) :
    ∃ t, receiveAll body s = t ∧
      t = { s with st := .txtEtx, txt := t.txt, cnt := s.f_siz, cks := s.cks + sum8 body } ∧
      t.txt.toList.take s.f_siz.toNat = s.txt.toList.take s.cnt.toNat ++ body := by
  induction body generalizing s with
  | nil => simp at h1
  | cons b l ih =>
    simp only [List.length_cons] at hc
    have hlt : s.cnt.toNat < s.f_siz.toNat := by omega
    have hc2 := toNat_cnt_succ hlt
    have htk := take_rxTxtBody b hlt
    rw [receiveAll_cons, receive_txtBody _ h]
    cases l with
    | nil =>
      have e : s.cnt + 1 = s.f_siz := (cnt_succ_eq_iff hlt).mpr (by simpa using hc)
      refine ⟨_, rfl, ?_, ?_⟩
      · simp only [receiveAll_nil, rxTxtBody, e, if_true, accumulate, sum8]
        simp
      · rw [receiveAll_nil, ← e, hc2, htk]
    | cons b' l' =>
      have hne : ¬ s.cnt + 1 = s.f_siz := by
        rw [cnt_succ_eq_iff hlt]
        simp at hc
        omega
      have hst : (rxTxtBody b s).st = .txtBody := by simp only [rxTxtBody, if_neg hne]
      obtain ⟨t, h2, h3, h4⟩ := ih (rxTxtBody b s) hst
        (by simp only [rxTxtBody, hc2]; simp at hc ⊢; omega) (by simp)
      refine ⟨t, h2, ?_, ?_⟩
      · rw [h3]
        simp only [rxTxtBody, accumulate]
        have : s.cks + b + sum8 (b' :: l') = s.cks + sum8 (b :: b' :: l') := by
          apply BitVec.eq_of_toNat_eq
          simp only [sum8, BitVec.toNat_add, BitVec.toNat_ofNat, List.map_cons, List.sum_cons]
          omega
        rw [this]
      · have e1 : (rxTxtBody b s).f_siz = s.f_siz := rfl
        have e2 : (rxTxtBody b s).cnt.toNat = s.cnt.toNat + 1 := hc2
        rw [e1, e2, htk] at h4
        rw [h4]
        simp

/-- A text frame of the announced size, up to its checksum byte. -/
theorem exec_txt {s : State} {body : List Byte} {c : Byte} (h : s.st = .txtStx)
    (hl : body.length = s.f_siz.toNat) (h1 : 1 ≤ body.length) :
    ∃ t : State, t = { s with st := .txtCks, txt := t.txt, cnt := s.f_siz, cks := textCks body } ∧
      requestText t = body ∧ exec (.txt body c) s = .next (receive c t) := by
  have e0 : receive 0x02 s = { s with cks := 0, cnt := 0, st := .txtBody } := by
    rw [receive_txtStx _ h]
    rfl
  obtain ⟨t, h2, h3, h4⟩ :=
    receiveAll_body body { s with cks := 0, cnt := 0, st := .txtBody } rfl (by simpa using hl) h1
  refine ⟨{ t with st := .txtCks }, ?_, ?_, ?_⟩
  · rw [h3]
    simp [textCks]
  · rw [requestText]
    have : ({ t with st := .txtCks } : State).f_siz = s.f_siz := by rw [h3]
    rw [this]
    simpa using h4
  · show Host.Outcome.next (receiveAll ([0x02] ++ body ++ [0x03, c]) s) = _
    rw [receiveAll_append, receiveAll_append, show receiveAll [0x02] s = receive 0x02 s from rfl, e0, h2]
    show Host.Outcome.next (receive c (receive 0x03 t)) = _
    rw [receive_txtEtx (s := t) _ (by rw [h3])]
    rfl

end Sys2Proof.Machine
end

