-- ==== Sys2Proof/Laws/PerInstr.lean ====
section
/-! SUPPORT. Decoding an encoded instruction, one lemma per instruction. -/

namespace Sys2Proof.Laws.DecodeEncode

/-- Decoding the bytes of `i`, at its level and with the text size it announces, gives `i` back and leaves what
follows. -/
def Statement (i : Instr) : Prop :=
  ∀ (p : Params) (rest : List Byte), p.wf = true → i.wf = true →
    decode p i.level i.textSize (encode p i ++ rest) = .ok (i, rest)

theorem soh : Statement .soh := fun _ _ _ _ => rfl
theorem stx : Statement .stx := fun _ _ _ _ => rfl
theorem etx : Statement .etx := fun _ _ _ _ => rfl
theorem eot : Statement .eot := fun _ _ _ _ => rfl
theorem enq : Statement .enq := fun _ _ _ _ => rfl
theorem ack : Statement .ack := fun _ _ _ _ => rfl
theorem nak : Statement .nak := fun _ _ _ _ => rfl
theorem sel : Statement .sel := fun _ _ _ _ => rfl
theorem selF (did sid : Byte) : Statement (.selF did sid) := fun _ _ _ _ => rfl
theorem hdr (did sid fnc siz cks : Byte) : Statement (.hdr did sid fnc siz cks) := fun _ _ _ _ => rfl
theorem rhdr (did sid fnc siz cks : Byte) : Statement (.rhdr did sid fnc siz cks) := fun _ _ _ _ => rfl

theorem txt (body : List Byte) (cks : Byte) : Statement (.txt body cks) := by
  intro p rest _ hw
  have hlen : body.length ≠ 0 := by
    simp only [Instr.wf, Instr.textSizeOk, Bool.and_eq_true, decide_eq_true_eq] at hw
    omega
  have e : encode p (.txt body cks) ++ rest = Config.STX :: (body ++ Config.ETX :: cks :: rest) := by simp [encode]
  have h1 : ¬ Config.STX = Config.SEL := by decide
  have h2 : ¬ Config.STX = Config.SOH := by decide
  simp only [Instr.level, Instr.textSize, decode, e, decodeFrame, h1, h2, if_false, if_true, decodeText, hlen,
    List.drop_left, List.take_left]

theorem reset : Statement .reset := fun _ _ _ _ => rfl
theorem select : Statement .select := fun _ _ _ _ => rfl
theorem read : Statement .read := fun _ _ _ _ => rfl
theorem write : Statement .write := fun _ _ _ _ => rfl
theorem flush : Statement .flush := fun _ _ _ _ => rfl
theorem img : Statement .img := fun _ _ _ _ => rfl

/-- The five codes are pairwise distinct (R7). -/
theorem codes_nodup {p : Params} (h : p.wf = true) : p.imgCodes.Nodup := by
  simp only [Params.wf, Bool.and_eq_true, decide_eq_true_eq] at h
  exact h.2

theorem imgDir : Statement .imgDir := by
  intro p rest _ _
  simp [Instr.level, decode, encode, decodeImg, imgRows, Except.map]

theorem imgMount : Statement .imgMount := by
  intro p rest hp _
  have hn := codes_nodup hp
  simp only [Params.imgCodes, List.nodup_cons, List.mem_cons, List.not_mem_nil, or_false, not_or] at hn
  obtain ⟨⟨h1, _⟩, _⟩ := hn
  have e1 : (p.imgMount == p.imgDir) = false := by simpa using Ne.symm h1
  simp [Instr.level, decode, encode, decodeImg, imgRows, List.lookup, Except.map, e1]

theorem imgCreate : Statement .imgCreate := by
  intro p rest hp _
  have hn := codes_nodup hp
  simp only [Params.imgCodes, List.nodup_cons, List.mem_cons, List.not_mem_nil, or_false, not_or] at hn
  obtain ⟨⟨_, h1, _⟩, ⟨h2, _⟩, _⟩ := hn
  have e1 : (p.imgCreate == p.imgDir) = false := by simpa using Ne.symm h1
  have e2 : (p.imgCreate == p.imgMount) = false := by simpa using Ne.symm h2
  simp [Instr.level, decode, encode, decodeImg, imgRows, List.lookup, Except.map, e1, e2]

theorem imgProtect : Statement .imgProtect := by
  intro p rest hp _
  have hn := codes_nodup hp
  simp only [Params.imgCodes, List.nodup_cons, List.mem_cons, List.not_mem_nil, or_false, not_or] at hn
  obtain ⟨⟨_, _, h1, _⟩, ⟨_, h2, _⟩, ⟨h3, _⟩, _⟩ := hn
  have e1 : (p.imgProtect == p.imgDir) = false := by simpa using Ne.symm h1
  have e2 : (p.imgProtect == p.imgMount) = false := by simpa using Ne.symm h2
  have e3 : (p.imgProtect == p.imgCreate) = false := by simpa using Ne.symm h3
  simp [Instr.level, decode, encode, decodeImg, imgRows, List.lookup, Except.map, e1, e2, e3]

theorem imgDefaults : Statement .imgDefaults := by
  intro p rest hp _
  have hn := codes_nodup hp
  simp only [Params.imgCodes, List.nodup_cons, List.mem_cons, List.not_mem_nil, or_false, not_or] at hn
  obtain ⟨⟨_, _, _, h1⟩, ⟨_, _, h2⟩, ⟨_, h3⟩, h4, _⟩ := hn
  have e1 : (p.imgDefaults == p.imgDir) = false := by simpa using Ne.symm h1
  have e2 : (p.imgDefaults == p.imgMount) = false := by simpa using Ne.symm h2
  have e3 : (p.imgDefaults == p.imgCreate) = false := by simpa using Ne.symm h3
  have e4 : (p.imgDefaults == p.imgProtect) = false := by simpa using Ne.symm h4
  simp [Instr.level, decode, encode, decodeImg, imgRows, List.lookup, Except.map, e1, e2, e3, e4]

end Sys2Proof.Laws.DecodeEncode
end

