-- ==== Sys2Proof/Tests/Slice0.lean ====
section
/-! SUPPORT. Tests: ill-formed terms refused, words written out from 30_encoding.md, one step at a time with the values of
95_test_vectors.md, and a witness for the hypotheses of every obligation that has any. -/

namespace Sys2Proof.Tests

open Sys2Proof Sys2Proof.Machine

-- Each of these theorems is checked by the kernel as it is read; in parallel they would need a thread each.
set_option Elab.async false

/-! ## Helpers -/

/-- 'DISK0.IMG   ', the default name of unit 0 on the spec's test bench. -/
def disk0 : Name := #v[0x44, 0x49, 0x53, 0x4B, 0x30, 0x2E, 0x49, 0x4D, 0x47, 0x20, 0x20, 0x20]

/-- 'WORK.IMG    '. -/
def work : Name := #v[0x57, 0x4F, 0x52, 0x4B, 0x2E, 0x49, 0x4D, 0x47, 0x20, 0x20, 0x20, 0x20]

def zeros4 : Vector Byte 4 := Vector.replicate 4 0

/-- The medium answers a write with success, or with failure and 128 bytes 0xAA. -/
def ok : Draw := ⟨false, Vector.replicate 128 0, []⟩
def bad : Draw := ⟨true, Vector.replicate 128 0xAA, []⟩

/-- The test bench's start state with image 'DISK0.IMG   ' present: three bytes of sector 5 and the last byte of
sector 2559 differ from the fill byte. -/
def bench : State :=
  { State.reset with
    files := [⟨disk0, [(640, 0x07), (641, 0x0A), (642, 0x0D), (327679, 0x80)]⟩]
    listing := [⟨disk0, zeros4⟩], env := [ok, ok] }

/-- The bench in another state of the parser. -/
def at_ (st : St) : State := { bench with st := st }

/-- The bench with bytes on the line. -/
def line (bs : List Byte) (s : State) : State := { s with rx := bs.map .rxByte }

/-- A request as the dispatcher sees it: function `fnc` from 0x32 to `did`, with text `T`. -/
def request (did fnc : Byte) (T : List Byte) : State :=
  { bench with
    st := .txtCks, f_did := did, f_sid := 0x32, f_fnc := fnc, f_siz := BitVec.ofNat 8 T.length
    cnt := BitVec.ofNat 8 T.length, cks := textCks T, txt := overwrite T (Vector.replicate 255 0) }

/-- What `f` reads in the next state. -/
def after {α : Type} (o : Host.Outcome State Fault Refusal) (f : State → α) : Option α :=
  match o with
  | .next t => some (f t)
  | .fault _ => none
  | .refused _ => none

/-! ## Ill-formed terms, one for each check of WellFormed -/

theorem test_wf_header : (Instr.hdr 0x31 0x32 0x77 0x02 0xDC).wf = true := by decide
theorem test_wf_header_cks : (Instr.hdr 0x31 0x32 0x77 0x02 0xDD).wf = false := by decide
theorem test_wf_reply_cks : (Instr.rhdr 0x32 0x31 0x77 0x81 0x5B).wf = false := by decide
/-- The checksum is right and the size is 130, then 0. -/
theorem test_wf_reply_size : (Instr.rhdr 0x32 0x31 0x77 0x82 0x5D).wf = false := by decide
theorem test_wf_reply_size_zero : (Instr.rhdr 0x32 0x31 0x77 0x00 0xDB).wf = false := by decide
theorem test_wf_text_cks : (Instr.txt [0x05, 0x00] 0x06).wf = false := by decide
theorem test_wf_text_empty : (Instr.txt [] 0x00).wf = false := by decide
theorem test_wf_text_long : (Instr.txt (List.replicate 256 0x00) 0x00).wf = false := by decide +kernel

/-! ## Words written out from the encodings (R91 to R94, R105, R106) -/

theorem test_decode_ctl :
    [0x01, 0x02, 0x03, 0x04, 0x05, 0x06, 0x15, 0x31].map (decodeTableWord 8) =
      [some .soh, some .stx, some .etx, some .eot, some .enq, some .ack, some .nak, some .sel] := by decide

theorem test_decode_fnc :
    [0x0D, 0x0E, 0x77, 0x78, 0x79, 0xE0].map (decodeTableWord 8) =
      [some .reset, some .select, some .read, some .write, some .flush, some .img] := by decide

theorem test_decode_img :
    [0x44, 0x4D, 0x4E, 0x50, 0x52].map (decodeTableWord 8) =
      [some .imgDir, some .imgMount, some .imgCreate, some .imgProtect, some .imgDefaults] := by decide

/-- `00110001 00110001 00110010 00000101` (S1). -/
theorem test_decode_self : decodeTableWord 32 0b00110001001100010011001000000101 = some (.selF 0x31 0x32) := by decide
/-- `01 00 31 32 77 02 DC` (S2). -/
theorem test_decode_hdr : decodeTableWord 56 0x010031327702DC = some (.hdr 0x31 0x32 0x77 0x02 0xDC) := by decide
/-- `01 01 32 31 77 81 5C` (2.1). -/
theorem test_decode_rhdr : decodeTableWord 56 0x0101323177815C = some (.rhdr 0x32 0x31 0x77 0x81 0x5C) := by decide
/-- `02 05 00 03 05` (S3). -/
theorem test_decode_txt : decodeTableWord 40 0x0205000305 = some (.txt [0x05, 0x00] 0x05) := by decide

theorem test_decode_refused :
    decodeCtl 0x0F = .error (.notControl 0x0F) ∧ decodeFnc 0x0F = .error (.unknownFunction 0x0F) ∧
    decodeImg Config.params 0x5A = .error (.unknownSubOperation 0x5A) ∧
    decodeFrame 0 [0x31, 0x31, 0x32, 0x06] = .error (.badEnquiry 0x06) ∧
    decodeFrame 0 [0x01, 0x02, 0x31, 0x32, 0x77, 0x02, 0xDE] = .error (.badFormat 0x02) ∧
    decodeFrame 2 [0x02, 0x05, 0x00, 0x04, 0x05] = .error (.badEndOfText 0x04) ∧
    decodeFrame 0 [0x02, 0x03, 0x00] = .error .noTextAnnounced ∧
    decodeFrame 0 [0x01, 0x00] = .error .truncated ∧ decodeFrame 0 [0x06] = .error (.notFrameStart 0x06) ∧
    decodeFrame 0 [] = .error .empty := by decide

/-! ## Checksums (95_test_vectors.md 2.1) -/

theorem test_header_cks :
    headerCks 0x00 0x31 0x32 0x78 0x82 = 0x5D ∧ headerCks 0xFF 0xFF 0xFF 0xFF 0xFF = 0xFB ∧
    headerCks 0x00 0x31 0x32 0xE0 0x0D = 0x50 := by decide

theorem test_text_cks :
    textCks [0xFF, 0x09] = 0x08 ∧ textCks [0x80, 0x80] = 0x00 ∧ textCks (List.replicate 255 0xFF) = 0x01 := by
  decide +kernel

/-! ## Control characters (2.2, P1, P3, P4) -/

theorem test_soh : after (exec .soh (at_ .hdrSoh)) (fun t => (t.st, t.err_prev)) = some (.hdrFmt, .idle) := by decide +kernel
theorem test_soh_twice : after (exec .soh (at_ .hdrFmt)) (fun t => (t.st, t.err_prev)) = some (.error, .hdrFmt) := by
  decide +kernel
theorem test_stx : after (exec .stx (at_ .txtStx)) (·.st) = some .txtBody := by decide +kernel
theorem test_etx : after (exec .etx (at_ .txtEtx)) (·.st) = some .txtCks := by decide +kernel
theorem test_eot :
    after (exec .eot { at_ .ackWait with r_did := 0x32, r_sid := 0x31, r_fnc := 0x77, r_siz := 0x81 })
      (fun t => (t.st, t.tx)) = some (.replyHeaderSent, [0x01, 0x01, 0x32, 0x31, 0x77, 0x81, 0x5C]) := by decide +kernel
theorem test_eot_early : after (exec .eot (at_ .hdrSoh)) (fun t => (t.st, t.err_prev)) = some (.error, .hdrSoh) := by
  decide +kernel
theorem test_enq :
    after (exec .enq { at_ .selEnq with f_did := 0x33 }) (fun t => (t.st, t.selected, t.tx)) =
      some (.hdrSoh, some 1, [0x06]) := by decide +kernel
theorem test_enq_other :
    after (exec .enq { at_ .selEnq with f_did := 0x40, selected := some 0 }) (fun t => (t.st, t.selected, t.tx, t.f_did)) =
      some (.idle, some 0, [], 0x00) := by decide +kernel
theorem test_ack_header :
    after (exec .ack { at_ .replyHeaderSent with r_siz := 0x01 }) (fun t => (t.st, t.tx)) =
      some (.replyTextSent, [0x02, 0x00, 0x03, 0x00]) := by decide +kernel
theorem test_ack_text : after (exec .ack (at_ .replyTextSent)) (fun t => (t.st, t.tx)) = some (.idle, [0x04]) := by
  decide +kernel
theorem test_nak :
    after (exec .nak (at_ .replyHeaderSent)) (fun t => (t.st, t.err_prev, t.tx)) =
      some (.error, .replyHeaderSent, []) := by decide +kernel
theorem test_sel : after (exec .sel (at_ .error)) (·.st) = some .selDid := by decide +kernel
theorem test_sel_as_id : after (exec .sel (at_ .selDid)) (fun t => (t.st, t.lat_did)) = some (.selSid, 0x31) := by
  decide +kernel

/-! ## Frames (P1, P3, P4) -/

theorem test_self :
    after (exec (.selF 0x31 0x32) bench) (fun t => (t.st, t.selected, t.tx, t.lat_sid)) =
      some (.hdrSoh, some 0, [0x06], 0x32) := by decide +kernel
theorem test_self_other :
    after (exec (.selF 0x40 0x32) bench) (fun t => (t.st, t.selected, t.tx, t.err_prev)) =
      some (.idle, none, [], .idle) := by decide +kernel
theorem test_hdr :
    after (exec (.hdr 0x31 0x32 0x77 0x02 0xDC) bench) (fun t => (t.st, t.f_siz, t.tx)) =
      some (.txtStx, 0x02, [0x06]) := by decide +kernel
theorem test_hdr_corrupted :
    after (exec (.hdr 0x31 0x32 0x77 0x02 0xDD) bench) (fun t => (t.st, t.err_prev, t.lat_cks, t.tx)) =
      some (.error, .hdrCks, 0xDD, [0x15]) := by decide +kernel
theorem test_rhdr :
    after (exec (.rhdr 0x32 0x31 0x77 0x81 0x5C)
        { at_ .ackWait with r_did := 0x32, r_sid := 0x31, r_fnc := 0x77, r_siz := 0x81 }) (fun t => (t.st, t.tx)) =
      some (.replyHeaderSent, [0x01, 0x01, 0x32, 0x31, 0x77, 0x81, 0x5C]) := by decide +kernel
theorem test_rhdr_received :
    after (exec (.rhdr 0x32 0x33 0x77 0x81 0x5E) bench) (fun t => (t.st, t.err_prev, t.tx)) =
      some (.error, .hdrFmt, []) := by decide +kernel
/-- `02 05 00 03 05` after the read header of P1. -/
theorem test_txt :
    after (exec (.txt [0x05, 0x00] 0x05)
        { at_ .txtStx with f_did := 0x31, f_sid := 0x32, f_fnc := 0x77, f_siz := 0x02 })
      (fun t => (t.st, t.tx, t.r_siz, (pendingText t).take 5, t.lat_cks)) =
      some (.ackWait, [0x06], 0x81, [0x00, 0x07, 0x0A, 0x0D, 0xE5], 0x05) := by decide +kernel
/-- `02 01 31 03 33` (P4): start characters in a body are data. -/
theorem test_txt_corrupted :
    after (exec (.txt [0x01, 0x31] 0x33) { at_ .txtStx with f_fnc := 0x77, f_siz := 0x02 })
      (fun t => (t.st, t.err_prev, t.tx)) = some (.error, .txtCks, [0x15]) := by decide +kernel

/-! ## Functions (3.1 to 3.6, P2, P6) -/

theorem test_reset :
    after (exec .reset { request 0x31 0x0D [] with selected := some 1, dir_cursor := 8 })
      (fun t => (t.selected, t.dir_cursor, pendingText t, t.r_did, t.r_sid)) =
      some (none, 0, [0x00], 0x32, 0x31) := by decide +kernel
theorem test_select :
    after (exec .select (request 0x33 0x0E [])) (fun t => (t.selected, pendingText t)) = some (some 1, [0x00]) := by
  decide +kernel
theorem test_select_other :
    after (exec .select (request 0x40 0x0E [])) (fun t => (t.selected, pendingText t)) = some (none, [0xFC]) := by
  decide +kernel
theorem test_read_last :
    after (exec .read (request 0x31 0x77 [0xFF, 0x09])) (fun t => (t.r_siz, (pendingText t).drop 127)) =
      some (0x81, [0xE5, 0x80]) := by decide +kernel
theorem test_read_range :
    after (exec .read (request 0x31 0x77 [0x00, 0x0A])) pendingText = some [0xFA] := by decide +kernel
theorem test_write :
    after (exec .write (request 0x31 0x78 ([0xFF, 0x09, 0xFF] ++ List.replicate 127 0xE5)))
      (fun t => (pendingText t, t.files.map (·.data))) =
      some ([0x00], [[(640, 0x07), (641, 0x0A), (642, 0x0D), (327552, 0xFF)]]) := by decide +kernel
theorem test_write_fails :
    after (exec .write { request 0x31 0x78 ([0x03, 0x00] ++ List.replicate 128 0x11) with env := [bad] })
      (fun t => (pendingText t, (t.files.map (·.data)).map (Memory.read 0xE5 · 640))) =
      some ([0xFB], [0x07]) := by decide +kernel
theorem test_flush : after (exec .flush (request 0x31 0x79 [])) pendingText = some [0x00] := by decide +kernel
theorem test_flush_size : after (exec .flush (request 0x31 0x79 [0x00])) pendingText = some [0xFF] := by decide +kernel
theorem test_unknown_function : pendingText (dispatch (request 0x31 0xFF [0xAA, 0xBB])) = [0xFF] := by decide +kernel

/-! ## Image management (3.7, 3.8) -/

theorem test_img_unknown : after (exec .img (request 0x31 0xE0 [0x5A])) pendingText = some [0xFF] := by decide +kernel
theorem test_img_mount_size :
    after (exec .img (request 0x31 0xE0 [0x4D, 0x53, 0x48, 0x4F, 0x52, 0x54])) pendingText = some [0xFF] := by
  decide +kernel
theorem test_img_dir :
    after (exec .imgDir { request 0x40 0xE0 [0x44] with listing := [⟨work, zeros4⟩] })
      (fun t => (t.dir_cursor, t.r_siz, pendingText t)) =
      some (0, 0x11, [0x00, 0x57, 0x4F, 0x52, 0x4B, 0x2E, 0x49, 0x4D, 0x47, 0x20, 0x20, 0x20, 0x20, 0x00, 0x00, 0x00,
        0x00]) := by decide +kernel
theorem test_img_dir_full :
    after (exec .imgDir { request 0x31 0xE0 [0x44] with listing := List.replicate 8 ⟨work, zeros4⟩ })
      (fun t => (t.dir_cursor, t.r_siz)) = some (8, 0x81) := by decide +kernel
theorem test_img_mount :
    after (exec .imgMount (request 0x31 0xE0 (0x4D :: work.toList))) (fun t => (t.name[0]?, pendingText t)) =
      some (some work, [0x00]) := by decide +kernel
theorem test_img_create :
    after (exec .imgCreate { request 0x33 0xE0 [0x4E] with dir_cursor := 8 })
      (fun t => (t.files.length, t.listing.length, t.dir_cursor, pendingText t)) = some (2, 2, 0, [0x00]) := by
  decide +kernel
theorem test_img_create_existing :
    after (exec .imgCreate (request 0x31 0xE0 [0x4E])) (fun t => (t.files.length, pendingText t)) =
      some (1, [0xFB]) := by decide +kernel
theorem test_img_protect :
    after (exec .imgProtect (request 0x31 0xE0 [0x50])) (fun t => (t.wp, pendingText t)) =
      some ([true, false], [0x00]) := by decide +kernel
theorem test_img_protect_other :
    after (exec .imgProtect (request 0x40 0xE0 [0x50])) (fun t => (t.wp, pendingText t)) =
      some ([false, false], [0xFC]) := by decide +kernel
theorem test_img_defaults :
    after (exec .imgDefaults { request 0x33 0xE0 [0x52] with wp := [true, true], name := [work, work], dir_cursor := 8 })
      (fun t => (t.wp, t.name[0]?, t.dir_cursor, pendingText t)) =
      some ([false, false], some disk0, 0, [0x00]) := by decide +kernel

/-! ## The other events (3.9), and placing a word -/

theorem test_timeout :
    after (step { at_ .error with rx := [.timeout], err_prev := .hdrCks, cfg := { Config.params with timeoutEnabled := true } })
      (fun t => (t.st, t.err_prev)) = some (.idle, .hdrCks) := by decide +kernel
theorem test_timeout_disabled :
    after (step { at_ .txtBody with rx := [.timeout] }) (·.st) = some .txtBody := by decide +kernel
theorem test_hw_reset :
    after (step { at_ .replyHeaderSent with
        rx := [.hwReset], selected := some 1, wp := [true, false], dir_cursor := 8, err_prev := .txtEtx, lat_fnc := 0x78 })
      (fun t => ((t.st, t.selected, t.wp, t.dir_cursor), (t.err_prev, t.lat_fnc, t.files.length))) =
      some ((.idle, none, [false, false], 0), (.idle, 0x00, 1)) := by decide +kernel
theorem test_placed_read :
    after (step (State.reset.withFetchWord 8 0x77)) (fun t => (t.st, t.r_fnc, t.tx)) =
      some (.ackWait, 0x77, [0x06]) := by decide +kernel
theorem test_placed_self :
    after (step (State.reset.withFetchWord 32 0x31313205)) (fun t => (t.st, t.selected)) =
      some (.hdrSoh, some 0) := by decide +kernel

/-! ## Witnesses: the hypotheses of each obligation can be met together, clause by clause -/

/-- A text of 255 bytes, the longest. -/
def longBody : List Byte := List.replicate 255 0xFF

theorem witness_DecodeOfEncode :
    Config.params.wf = true ∧ (Instr.txt longBody 0x01).wf = true ∧ (Instr.txt [0x00] 0x00).wf = true ∧
    (Instr.rhdr 0x32 0x31 0x77 0x81 0x5C).wf = true := by decide +kernel

theorem witness_EncodeOfDecode :
    decode Config.params .frame 1 [0x02, 0x05, 0x03, 0x05, 0x06] = .ok (.txt [0x05] 0x05, [0x06]) := by decide +kernel

theorem witness_CorruptedHeaderIsRefused :
    7 < 8 ∧ bench.st = .idle ∧ (at_ .error).st = .error ∧
    Instr.hdr (0x31 ^^^ BitVec.twoPow 8 7) 0x32 0x77 0x02 (headerCks 0x00 0x31 0x32 0x77 0x02) ∈
      [Instr.hdr 0xB1 0x32 0x77 0x02 0xDC] := by decide +kernel

theorem witness_CorruptedTextChangesTheSum : 0 < 8 ∧ 7 < 8 := by decide

theorem witness_StepRunsTheNextEvent :
    bench.rx = [] ∧
    ((line [0x01] bench).rx = .rxByte 0x01 :: [] ∧ decodeCtl 0x01 = .ok .soh) ∧
    ((line [0x77] bench).rx = .rxByte 0x77 :: [] ∧ decodeCtl 0x77 = .error (.notControl 0x77)) ∧
    ({ bench with rx := [.timeout] } : State).rx = .timeout :: [] ∧
    ({ bench with rx := [.hwReset] } : State).rx = .hwReset :: [] := by decide +kernel

theorem witness_StepsRunAFrame :
    decode bench.cfg .frame 1 [0x02, 0x05, 0x03, 0x05] = .ok (.txt [0x05] 0x05, []) ∧
    (∀ d h f z c, Instr.txt [0x05] 0x05 ≠ .rhdr d h f z c) ∧
    (line [0x02, 0x05, 0x03, 0x05] bench).rx = [0x02, 0x05, 0x03, 0x05].map .rxByte ++ [] :=
  ⟨by decide +kernel, fun _ _ _ _ _ h => (nomatch h), rfl⟩

theorem witness_LastChecksumByteRunsTheFunction :
    (let s := line [0x05] (request 0x31 0x77 [0x05, 0x00])
     s.rx = .rxByte s.cks :: [] ∧ s.st = .txtCks ∧ decodeFnc s.f_fnc = .ok .read) ∧
    (let s := line [0x00] { request 0x31 0x79 [] with st := .hdrCks }
     s.rx = .rxByte s.cks :: [] ∧ s.st = .hdrCks ∧ s.f_siz = 0 ∧ decodeFnc s.f_fnc = .ok .flush) ∧
    (let s := request 0x31 0xE0 [0x44]
     1 ≤ s.f_siz.toNat ∧ decodeImg s.cfg s.txt[0] = .ok .imgDir) := by decide +kernel

theorem witness_TransitionTable : (line [0x31] bench).rx = .rxByte 0x31 :: [] := rfl

/-- One witness for each of the nine states. -/
theorem witness_FramingViolationEffect :
    ∀ p ∈ [(St.idle, (0x02 : Byte)), (.selEnq, 0x06), (.hdrSoh, 0x04), (.hdrFmt, 0x01), (.txtStx, 0x01), (.txtEtx, 0x04),
      (.ackWait, 0x15), (.replyHeaderSent, 0x15), (.replyTextSent, 0x04)],
      let s := line [p.2] (at_ p.1)
      let b := p.2
      s.rx = .rxByte b :: [] ∧
      ((s.st = .idle ∧ b ≠ 0x01 ∧ b ≠ 0x31) ∨ (s.st = .selEnq ∧ b ≠ 0x05) ∨ (s.st = .hdrSoh ∧ b ≠ 0x01) ∨
       (s.st = .hdrFmt ∧ b ≠ 0x00) ∨ (s.st = .txtStx ∧ b ≠ 0x02) ∨ (s.st = .txtEtx ∧ b ≠ 0x03) ∨
       (s.st = .ackWait ∧ b ≠ 0x04) ∨ (s.st = .replyHeaderSent ∧ b ≠ 0x06) ∨
       (s.st = .replyTextSent ∧ b ≠ 0x06)) := by decide +kernel

/-- No violation: a state that takes every byte, one that takes this byte, a checksum byte that matches and one that
differs, and `S_ERROR`. -/
theorem witness_FramingViolationEffect_none :
    (∀ p ∈ [(St.txtBody, (0x03 : Byte)), (.txtEtx, 0x03), (.hdrCks, 0x00), (.hdrCks, 0x01), (.error, 0x15)],
      let s := line [p.2] (at_ p.1)
      let b := p.2
      s.rx = .rxByte b :: [] ∧
      ¬ ((s.st = .idle ∧ b ≠ 0x01 ∧ b ≠ 0x31) ∨ (s.st = .selEnq ∧ b ≠ 0x05) ∨ (s.st = .hdrSoh ∧ b ≠ 0x01) ∨
         (s.st = .hdrFmt ∧ b ≠ 0x00) ∨ (s.st = .txtStx ∧ b ≠ 0x02) ∨ (s.st = .txtEtx ∧ b ≠ 0x03) ∨
         (s.st = .ackWait ∧ b ≠ 0x04) ∨ (s.st = .replyHeaderSent ∧ b ≠ 0x06) ∨
         (s.st = .replyTextSent ∧ b ≠ 0x06))) ∧
    (at_ .hdrCks).cks = 0x00 := by decide +kernel

theorem witness_ChecksumFailureEffect :
    ∀ st ∈ [St.hdrCks, .txtCks],
      let s := line [0xDD] { at_ st with cks := 0xDC }
      s.rx = .rxByte 0xDD :: [] ∧ (0xDD : Byte) ≠ s.cks ∧ (s.st = .hdrCks ∨ s.st = .txtCks) := by decide +kernel

theorem witness_StartCharacters :
    (∀ st ∈ [St.idle, .error, .hdrSoh], (at_ st).st = .idle ∨ (at_ st).st = .error ∨ (at_ st).st = .hdrSoh) ∧
    (∀ st ∈ [St.idle, .error], (at_ st).st = .idle ∨ (at_ st).st = .error) ∧
    (let s := line [0x15] (at_ .error)
     s.st = .error ∧ (0x15 : Byte) ≠ 0x01 ∧ (0x15 : Byte) ≠ 0x31 ∧ s.rx = .rxByte 0x15 :: []) ∧
    (let s := line [0x04] bench
     s.st = .idle ∧ (0x04 : Byte) ≠ 0x01 ∧ (0x04 : Byte) ≠ 0x31 ∧ s.rx = .rxByte 0x04 :: []) ∧
    (let s := line [0x31] (at_ .hdrSoh)
     s.st = .hdrSoh ∧ (0x31 : Byte) ≠ 0x01 ∧ s.rx = .rxByte 0x31 :: []) := by decide +kernel

/-- The last unit index, and an id that is no unit. -/
theorem witness_EnquiryCompletesSelect :
    (let s := { at_ .selEnq with f_did := 0x33 }
     s.st = .selEnq ∧ s.cfg.unitIds[1]? = some s.f_did ∧ (∀ v < 1, s.cfg.unitIds[v]? ≠ some s.f_did)) ∧
    (let s := { at_ .selEnq with f_did := 0x40 }
     s.st = .selEnq ∧ s.f_did ∉ s.cfg.unitIds) ∧
    (let s := line [0x06] (at_ .selEnq)
     s.st = .selEnq ∧ s.rx = .rxByte 0x06 :: [] ∧ (0x06 : Byte) ≠ 0x05) := by decide +kernel

theorem witness_HeaderFieldRules :
    ∀ st ∈ [St.selDid, .selSid, .hdrFmt, .hdrDid, .hdrSid, .hdrFnc, .hdrSiz],
      ∀ b ∈ [(0x00 : Byte), 0xFF], (line [b] (at_ st)).rx = .rxByte b :: [] ∧ (line [b] (at_ st)).st = st := by
  decide +kernel

theorem witness_HeaderAnnouncesText :
    ∀ z ∈ [(0x01 : Byte), 0xFF],
      let s := line [0x00] { at_ .hdrCks with f_siz := z }
      s.rx = .rxByte s.cks :: [] ∧ s.st = .hdrCks ∧ s.f_siz ≠ 0 := by decide +kernel

theorem witness_TextDelimiters :
    (at_ .txtStx).st = .txtStx ∧ (at_ .txtEtx).st = .txtEtx ∧
    (∀ st ∈ [St.txtStx, .txtEtx],
      let s := line [0x01] (at_ st)
      s.rx = .rxByte 0x01 :: [] ∧ ((s.st = .txtStx ∧ (0x01 : Byte) ≠ 0x02) ∨ (s.st = .txtEtx ∧ (0x01 : Byte) ≠ 0x03))) := by
  decide +kernel

/-- The first and only byte, and the last of 255. -/
theorem witness_TextBodyIsCounted :
    ∀ p ∈ [((0x00 : Byte), (0x01 : Byte)), (0xFE, 0xFF)],
      let s := line [0x03] { at_ .txtBody with cnt := p.1, f_siz := p.2 }
      s.rx = .rxByte 0x03 :: [] ∧ s.st = .txtBody ∧ s.cnt.toNat < s.f_siz.toNat := by
  intro p hp
  simp only [List.mem_cons, List.not_mem_nil, or_false] at hp
  rcases hp with rfl | rfl <;> exact ⟨rfl, rfl, by decide⟩

theorem witness_ReplySequence :
    (at_ .ackWait).st = .ackWait ∧ (at_ .replyHeaderSent).st = .replyHeaderSent ∧
    (at_ .replyTextSent).st = .replyTextSent ∧
    (∀ st ∈ [St.ackWait, .replyHeaderSent, .replyTextSent],
      let s := line [0x15] (at_ st)
      s.rx = .rxByte 0x15 :: [] ∧ ((s.st = .ackWait ∧ (0x15 : Byte) ≠ 0x04) ∨
        (s.st = .replyHeaderSent ∧ (0x15 : Byte) ≠ 0x06) ∨ (s.st = .replyTextSent ∧ (0x15 : Byte) ≠ 0x06))) := by
  decide +kernel

/-- The statement speaks of every state; its conditions on the checksum byte: a sum that differs, one that is 0x15 with a
text to follow and without, and one that is 0x15 after a text. -/
theorem witness_NakIsNeverAcceptedAsSuch :
    (∀ st ∈ [St.hdrCks, .txtCks], (at_ st).st = st ∧ (at_ st).cks ≠ 0x15) ∧
    (let s := { at_ .hdrCks with cks := 0x15, f_siz := 0x01 }
     s.st = .hdrCks ∧ s.cks = 0x15 ∧ s.f_siz ≠ 0) ∧
    (let s := { at_ .hdrCks with cks := 0x15 }
     s.st = .hdrCks ∧ s.cks = 0x15 ∧ s.f_siz = 0) ∧
    (let s := request 0x31 0x77 [0x15, 0x00]
     s.st = .txtCks ∧ s.cks = 0x15) := by decide +kernel

theorem witness_SelectFrameReceived :
    (bench.st = .idle ∧ unitIndex bench.cfg 0x33 = some 1) ∧
    ((at_ .error).st = .error ∧ unitIndex (at_ .error).cfg 0x40 = none) := by decide +kernel

theorem witness_HeaderFrameReceived :
    (bench.st = .idle ∧ (0xDC : Byte) = headerCks 0x00 0x31 0x32 0x77 0x02 ∧ (0x02 : Byte) ≠ 0) ∧
    ((at_ .hdrSoh).st = .hdrSoh ∧ (0xDC : Byte) = headerCks 0x00 0x31 0x32 0x79 0x00) ∧
    ((at_ .error).st = .error ∧ (0xDD : Byte) ≠ headerCks 0x00 0x31 0x32 0x77 0x02) := by decide +kernel

/-- One byte and 255, with the right checksum and a wrong one. -/
theorem witness_TextFrameReceived :
    ∀ p ∈ [([(0x01 : Byte)], (0x01 : Byte)), (longBody, 0xFF)],
      let s := { at_ .txtStx with f_siz := p.2 }
      s.st = .txtStx ∧ p.1.length = s.f_siz.toNat ∧ 1 ≤ p.1.length ∧ (0x01 : Byte) = textCks p.1 ∧
        (0x02 : Byte) ≠ textCks p.1 := by decide +kernel

theorem witness_ReplyHeaderFrame :
    (at_ .ackWait).st = .ackWait ∧ bench.st = .idle ∧
    (∀ b ∈ [(0x32 : Byte), 0x33, 0x77, 0x81, 0x5E], b ≠ 0x01 ∧ b ≠ 0x31) := by decide +kernel

theorem witness_ReplyAssembly :
    ∀ n ∈ [1, 129], 1 ≤ (List.replicate n (0x00 : Byte)).length ∧ (List.replicate n (0x00 : Byte)).length ≤ 129 := by
  decide +kernel

theorem witness_ResetFunction : (request 0x31 0x0D []).f_siz = 0 := by decide +kernel

theorem witness_SelectFunction :
    (request 0x33 0x0E []).f_siz = 0 ∧ unitIndex Config.params (request 0x33 0x0E []).f_did = some 1 ∧
    unitIndex Config.params (request 0x40 0x0E []).f_did = none := by decide +kernel

/-- Sectors 2560 and 2559 of an image that is there, and of one that is not. -/
theorem witness_ReadFunction :
    (let s := request 0x31 0x77 [0x00, 0x0A]
     s.f_siz = 2 ∧ unitIndex s.cfg s.f_did = some 0 ∧ 2560 ≤ s.txt[0].toNat + 256 * s.txt[1].toNat) ∧
    (let s := request 0x33 0x77 [0xFF, 0x09]
     s.f_siz = 2 ∧ unitIndex s.cfg s.f_did = some 1 ∧ s.txt[0].toNat + 256 * s.txt[1].toNat < 2560 ∧
       Files.find s.files (unitName s 1) = none) ∧
    (let s := request 0x31 0x77 [0xFF, 0x09]
     s.f_siz = 2 ∧ unitIndex s.cfg s.f_did = some 0 ∧ s.txt[0].toNat + 256 * s.txt[1].toNat < 2560 ∧
       (Files.find s.files (unitName s 0)).isSome) := by decide +kernel

/-- A write of sector `lo + 256 * hi`. -/
def writeRequest (did lo hi : Byte) : State := request did 0x78 ([lo, hi] ++ List.replicate 128 0x11)

theorem witness_WriteFunction :
    (let s := { writeRequest 0x31 0x00 0x0A with wp := [true, false] }
     s.f_siz = 130 ∧ unitIndex s.cfg s.f_did = some 0 ∧ unitWp s 0 = true) ∧
    (let s := writeRequest 0x31 0x00 0x0A
     s.f_siz = 130 ∧ unitIndex s.cfg s.f_did = some 0 ∧ unitWp s 0 = false ∧
       2560 ≤ s.txt[0].toNat + 256 * s.txt[1].toNat) ∧
    (let s := writeRequest 0x33 0xFF 0x09
     s.f_siz = 130 ∧ unitIndex s.cfg s.f_did = some 1 ∧ unitWp s 1 = false ∧
       s.txt[0].toNat + 256 * s.txt[1].toNat < 2560 ∧ Files.find s.files (unitName s 1) = none) ∧
    (∀ d ∈ [ok, bad],
      let s := { writeRequest 0x31 0xFF 0x09 with env := [d] }
      s.f_siz = 130 ∧ unitIndex s.cfg s.f_did = some 0 ∧ unitWp s 0 = false ∧
       s.txt[0].toNat + 256 * s.txt[1].toNat < 2560 ∧ (Files.find s.files (unitName s 0)).isSome ∧
       (nextDraw s).fails = d.fails) := by decide +kernel

theorem witness_FlushFunction : (request 0x31 0x79 []).f_siz = 0 := by decide +kernel

theorem witness_SizeMismatch :
    (Instr.write, 130) ∈ [(Instr.write, 130)] ∧ (request 0x31 0x78 (List.replicate 131 0x00)).f_siz.toNat ≠ 130 ∧
    (request 0x31 0x78 (List.replicate 129 0x00)).f_siz.toNat ≠ 130 := by decide +kernel

theorem witness_UnrecognisedUnit :
    let s := request 0x40 0x77 [0x00, 0x00]
    s.f_siz.toNat = 2 ∧ s.f_did ∉ s.cfg.unitIds := by decide +kernel

theorem witness_UnknownFunctionCode :
    (request 0x31 0x0F []).f_fnc ∉ [(0x0D : Byte), 0x0E, 0x77, 0x78, 0x79, 0xE0] := by decide +kernel

theorem witness_ImageManagementDecoding :
    (request 0x31 0xE0 []).f_siz = 0 ∧
    (let s := request 0x31 0xE0 [0x5A]
     s.f_siz ≠ 0 ∧ s.txt[0] ∉ s.cfg.imgCodes) ∧
    (∀ b ∈ [(0x44 : Byte), 0x4D, 0x4E, 0x50, 0x52],
      let s := request 0x31 0xE0 [b]
      s.f_siz ≠ 0 ∧ s.cfg.wf = true ∧ s.txt[0] = b ∧ b ∈ s.cfg.imgCodes) := by decide +kernel

theorem witness_DirectoryPage : (request 0x31 0xE0 [0x44]).f_siz = 1 := by decide +kernel

theorem witness_MountFunction :
    let s := request 0x33 0xE0 (0x4D :: work.toList)
    s.f_siz = 13 ∧ unitIndex s.cfg s.f_did = some 1 := by decide +kernel

theorem witness_CreateFunction :
    (let s := request 0x31 0xE0 [0x4E]
     s.f_siz = 1 ∧ unitIndex s.cfg s.f_did = some 0 ∧ Files.wf s.cfg.newImageFill s.files = true ∧
       legalListing s.files s.listing = true ∧ (Files.find s.files (unitName s 0)).isSome) ∧
    (∀ d ∈ [ok, bad],
      let s := { request 0x33 0xE0 [0x4E] with env := [d] }
      s.f_siz = 1 ∧ unitIndex s.cfg s.f_did = some 1 ∧ Files.wf s.cfg.newImageFill s.files = true ∧
        legalListing s.files s.listing = true ∧ Files.find s.files (unitName s 1) = none ∧
        (nextDraw s).fails = d.fails) := by decide +kernel

theorem witness_ToggleProtect :
    let s := request 0x33 0xE0 [0x50]
    s.f_siz = 1 ∧ unitIndex s.cfg s.f_did = some 1 ∧ 1 < s.wp.length := by decide +kernel

theorem witness_DefaultsFunction : (request 0x33 0xE0 [0x52]).f_siz = 1 := by decide +kernel

theorem witness_DispatchClosedEffects :
    ∃ t, Instr.read.level = .fnc ∧ exec .read (request 0x31 0x77 [0x05, 0x00]) = .next t := ⟨_, rfl, rfl⟩

/-- A write that stores, and the sector it stores to. -/
theorem witness_WriteFrame :
    (∃ t, exec .write (writeRequest 0x31 0xFF 0x09) = .next t) ∧
    (let s := writeRequest 0x31 0xFF 0x09
     Files.wf s.cfg.newImageFill s.files = true ∧ targetUnit s = some 0 ∧
       (Files.find s.files (unitName s 0)).isSome ∧
       (Files.find (fnWrite s).files (unitName s 0)).isSome) ∧
    (let s := { writeRequest 0x31 0x00 0x0A with wp := [true, false] }
     targetUnit s = some 0 ∧ unitWp s 0 = true ∧ 2560 ≤ sectorNumber (requestText s)) ∧
    (request 0x31 0x78 []).f_siz ≠ 130 ∧ targetUnit (writeRequest 0x40 0x00 0x00) = none :=
  ⟨⟨_, rfl⟩, by decide +kernel, by decide +kernel, by decide +kernel, by decide +kernel⟩

theorem witness_ReadReturnsWhatWasWritten :
    (let s := writeRequest 0x31 0xFF 0x09
     Files.wf s.cfg.newImageFill s.files = true ∧ s.f_siz = 130 ∧ targetUnit s = some 0 ∧ unitWp s 0 = false ∧
       s.txt[0].toNat + 256 * s.txt[1].toNat < 2560 ∧ (imageOf s 0).isSome ∧ (nextDraw s).fails = false) ∧
    (let s := writeRequest 0x31 0xFF 0x09
     let r := { request 0x33 0x77 [0xFF, 0x09] with files := (fnWrite s).files, name := [disk0, disk0] }
     r.cfg = s.cfg ∧ r.f_siz = 2 ∧ targetUnit r = some 1 ∧ (imageOf r 1).isSome ∧
       imageOf r 1 = imageOf (fnWrite s) 0 ∧ r.txt[0] = s.txt[0] ∧ r.txt[1] = s.txt[1]) := by decide +kernel

theorem witness_WriteIsIdempotent :
    let s := writeRequest 0x31 0xFF 0x09
    Files.wf s.cfg.newImageFill s.files = true ∧ targetUnit s = some 0 ∧ unitWp s 0 = false ∧
      (nextDraw s).fails = false ∧ exec .write s = .next (fnWrite s) ∧
      (let r := { fnWrite s with env := [ok], drawn := 7 }
       (nextDraw r).fails = false ∧ exec .write r = .next (fnWrite r)) :=
  ⟨by decide +kernel, by decide +kernel, by decide +kernel, by decide +kernel, rfl, rfl, rfl⟩

theorem witness_ProtectionLaw :
    let s := { writeRequest 0x31 0x00 0x0A with wp := [true, false] }
    s.f_siz = 130 ∧ targetUnit s = some 0 ∧ unitWp s 0 = true := by decide +kernel

theorem witness_OutOfRangeLaw :
    (let s := request 0x31 0x77 [0x00, 0x0A]
     targetUnit s = some 0 ∧ 2560 ≤ s.txt[0].toNat + 256 * s.txt[1].toNat ∧ s.f_siz = 2) ∧
    (∀ w ∈ [[false, false], [true, false]],
      let s := { writeRequest 0x31 0xFF 0xFF with wp := w }
      targetUnit s = some 0 ∧ 2560 ≤ s.txt[0].toNat + 256 * s.txt[1].toNat ∧ s.f_siz = 130 ∧
        unitWp s 0 = w.headD false) := by decide +kernel

/-- A request for the page at `c`, over nine entries. -/
def pageRequest (c : Nat) : State :=
  { request 0x31 0xE0 [0x44] with listing := List.replicate 9 ⟨work, zeros4⟩, dir_cursor := c }

/-- The cursor of the `j`-th request. -/
def pageCursor : Nat → Nat
  | 0 => 0
  | j + 1 => (fnImgDir (pageRequest (pageCursor j))).dir_cursor

theorem witness_PagingLaw :
    let S := fun j => pageRequest (pageCursor j)
    let T := fun j => fnImgDir (S j)
    (∀ j, exec .imgDir (S j) = .next (T j)) ∧ (∀ j, (S j).f_siz = 1) ∧
    (∀ j, (S j).listing = List.replicate 9 ⟨work, zeros4⟩) ∧ (S 0).dir_cursor = 0 ∧
    (∀ j, (S (j + 1)).dir_cursor = (T j).dir_cursor) ∧
    (∃ t, Instr.flush ∈ [Instr.select, .read, .write, .flush, .imgMount, .imgProtect] ∧ exec .flush bench = .next t) :=
  ⟨fun _ => rfl, fun _ => rfl, fun _ => rfl, rfl, fun _ => rfl, _, by decide, rfl⟩

theorem witness_SelectionGatesNothing :
    Instr.imgDir.level = .img ∧ exec .imgDir (request 0x31 0xE0 [0x44]) = .next (fnImgDir (request 0x31 0xE0 [0x44])) :=
  ⟨rfl, rfl⟩

theorem witness_launchable :
    launchable Config.params bench.files bench.listing := ⟨by decide, by decide +kernel, by decide +kernel⟩

/-- A body half received: 'read' with its first byte in. -/
def halfway : State :=
  line [0x00] { bench with st := .txtBody, f_did := 0x31, f_sid := 0x32, f_fnc := 0x77, f_siz := 0x02, cnt := 0x01, cks := 0x05,
                           txt := overwrite [0x05] (Vector.replicate 255 0) }

theorem witness_StepKeepsTheInvariant : Inv halfway ∧ ∃ t, step halfway = .next t := by
  refine ⟨⟨by decide, by decide +kernel, by decide +kernel, fun _ => by decide +kernel, rfl, ?_, rfl, ?_, ?_, ?_, rfl, rfl,
    by decide +kernel, by decide +kernel⟩, ⟨_, rfl⟩⟩
  · rintro (h | h | h) <;> cases h
  · intro u h
    cases h
  · rintro (h | h) <;> cases h
  · show halfway.cks = textCks (halfway.txt.toList.take halfway.cnt.toNat)
    decide +kernel

theorem witness_HwResetEffect : ({ bench with rx := [.hwReset] } : State).rx = .hwReset :: [] := rfl

theorem witness_TimeoutEffect :
    let s := { at_ .error with rx := [.timeout], cfg := { Config.params with timeoutEnabled := true } }
    s.rx = .timeout :: [] ∧ s.cfg.timeoutEnabled = true ∧ s.st ≠ .idle := by decide +kernel

theorem witness_SentBytesAndParametersStay : ∃ t, step (line [0x04] (at_ .ackWait)) = .next t := ⟨_, rfl⟩

theorem witness_LatestFields :
    (∃ t, step (line [0xFF] (at_ .hdrSiz)) = .next t) ∧ (line [0xFF] (at_ .hdrSiz)).rx = .rxByte 0xFF :: [] ∧
    ({ bench with rx := [.timeout] } : State).rx = .timeout :: [] ∧
    ({ bench with rx := [.hwReset] } : State).rx = .hwReset :: [] := ⟨⟨_, rfl⟩, rfl, rfl, rfl⟩

theorem witness_ErrPrevIsWrittenByExceptionsOnly :
    (∃ t, step (line [0x04] (at_ .hdrSoh)) = .next t) ∧ (line [0x04] (at_ .hdrSoh)).rx = .rxByte 0x04 :: [] ∧
    ({ bench with rx := [.timeout] } : State).rx = .timeout :: [] ∧
    ({ bench with rx := [.hwReset] } : State).rx = .hwReset :: [] := ⟨⟨_, rfl⟩, rfl, rfl, rfl⟩

/-- The enquiry of a select frame changes `selected`. -/
theorem witness_SelectedChangesOnlyBy :
    after (step (line [0x05] { at_ .selEnq with f_did := 0x31 })) (·.selected) = some (some 0) ∧
    bench.selected = none := by decide +kernel

/-- A toggle changes a flag, a mount changes a name. -/
theorem witness_DriveTableChangesOnlyBy :
    after (step (line [0x50] (request 0x31 0xE0 [0x50]))) (·.wp) = some [true, false] ∧ bench.wp = [false, false] ∧
    (let s := request 0x31 0xE0 (0x4D :: work.toList)
     after (step (line [s.cks] s)) (fun t => t.name[0]?) = some (some work) ∧ s.name[0]? = some disk0) := by
  decide +kernel

/-- A write changes the medium, a create the listing. -/
theorem witness_MediumChangesOnlyBy :
    (let s := writeRequest 0x31 0xFF 0x09
     after (step (line [s.cks] s)) (fun t => decide (t.files = s.files)) = some false) ∧
    (let s := request 0x33 0xE0 [0x4E]
     after (step (line [s.cks] s)) (fun t => decide (t.listing = s.listing)) = some false) := by decide +kernel

/-- With a select frame and a text (P1), without either (`RESET` of P6), and the longest text. -/
theorem witness_CompleteExchange :
    (let s := line [0x31, 0x31, 0x32, 0x05, 0x01, 0x00, 0x31, 0x32, 0x77, 0x02, 0xDC, 0x02, 0x05, 0x00, 0x03, 0x05,
        0x04, 0x06, 0x06] bench
     let body : List Byte := [0x05, 0x00]
     s.st = .idle ∧ body.length ≤ 255 ∧ (true = true → (0x31 : Byte) ∈ s.cfg.unitIds) ∧
       s.rx = ((if true then [0x31, 0x31, 0x32, 0x05] else []) ++
         [0x01, 0x00, 0x31, 0x32, 0x77, BitVec.ofNat 8 body.length,
          headerCks 0x00 0x31 0x32 0x77 (BitVec.ofNat 8 body.length)] ++
         (if body = [] then [] else [0x02] ++ body ++ [0x03, textCks body]) ++ [0x04, 0x06, 0x06]).map .rxByte ++ []) ∧
    (let s := line [0x01, 0x00, 0x31, 0x32, 0x0D, 0x00, 0x70, 0x04, 0x06, 0x06] bench
     let body : List Byte := []
     s.st = .idle ∧ body.length ≤ 255 ∧ (false = true → (0x31 : Byte) ∈ s.cfg.unitIds) ∧
       s.rx = ((if false then [0x31, 0x31, 0x32, 0x05] else []) ++
         [0x01, 0x00, 0x31, 0x32, 0x0D, BitVec.ofNat 8 body.length,
          headerCks 0x00 0x31 0x32 0x0D (BitVec.ofNat 8 body.length)] ++
         (if body = [] then [] else [0x02] ++ body ++ [0x03, textCks body]) ++ [0x04, 0x06, 0x06]).map .rxByte ++ []) ∧
    longBody.length ≤ 255 := by decide +kernel

/-- Both units mounted on 'DISK0.IMG   ', unit 0 protected. -/
theorem witness_TwoUnitsOnOneImage :
    (∀ did ∈ [(0x31 : Byte), 0x33],
      let s := { writeRequest did 0xFF 0x09 with name := [disk0, disk0], wp := [true, false] }
      unitName s 0 = unitName s 1 ∧ s.f_siz = 130 ∧ unitWp s 0 = true ∧ unitWp s 1 = false ∧
        (targetUnit s = some 0 ∨ targetUnit s = some 1) ∧ (nextDraw s).fails = false ∧ (imageOf s 1).isSome ∧
        s.txt[0].toNat + 256 * s.txt[1].toNat < 2560) := by decide +kernel

end Sys2Proof.Tests
end

section
/-! PROOFS. The scope of a step: which event it runs, and by which rule. -/

namespace Sys2Proof.Machine

/-- R107: the instruction of a control character is the transition of its byte, whatever the state. -/
theorem exec_of_decodeCtl {b : Byte} {i : Instr} (h : decodeCtl b = .ok i) (s : State) :
    exec i s = .next (receive b s) := by
  have hrun : runByte b s = exec i s := by simp only [runByte, h]
  rw [← hrun, runByte_eq]

/-- Settles O7: one law of the step per kind of event; a control character's instruction is the transition of its
byte (`exec_of_decodeCtl`). -/
theorem stepRunsTheNextEvent : Obligations.StepRunsTheNextEvent := by
  intro s
  refine ⟨step_nothing, ?control, ?data, fun _ => step_timeout, fun _ => step_hwReset⟩
  case control =>
    intro b rest i hrx hctl
    exact (step_rxByte hrx).trans (exec_of_decodeCtl hctl _).symm
  case data =>
    intro b rest _ hrx _
    exact step_rxByte hrx

end Sys2Proof.Machine
end

section
/-! PROOFS. Everything one byte can do, said once as a relation (R150 to R169), and what a step can do. -/

namespace Sys2Proof.Machine

/-- The nine states that accept particular bytes only (R251). -/
def awaitsFixedByte (st : St) : Prop :=
  st = .idle ∨ st = .selEnq ∨ st = .hdrSoh ∨ st = .hdrFmt ∨ st = .txtStx ∨ st = .txtEtx ∨ st = .ackWait ∨
    st = .replyHeaderSent ∨ st = .replyTextSent

/-- What receiving `b` in `s` can lead to, a constructor for each rule of R150 and each of its outcomes. -/
inductive Transition (b : Byte) (s : State) : State → Prop
  /-- R251. -/
  | violation (hst : awaitsFixedByte s.st) : Transition b s (enterError s.st s)
  /-- R252, R253. -/
  | badChecksum (hst : s.st = .hdrCks ∨ s.st = .txtCks) :
      Transition b s (enterError s.st (send [Config.NAK] (noteChecksum b s)))
  /-- R151, R155, R169. -/
  | frameStart (st' : St) (hst : s.st = .idle ∨ s.st = .hdrSoh ∨ s.st = .error)
      (hst' : st' = .selDid ∨ st' = .hdrFmt) : Transition b s { clearFrame s with st := st' }
  /-- R169. -/
  | discard (hst : s.st = .error) : Transition b s s
  /-- R152. -/
  | selDid (hst : s.st = .selDid) : Transition b s (rxSelDid b s)
  /-- R153. -/
  | selSid (hst : s.st = .selSid) : Transition b s (rxSelSid b s)
  /-- R154, for a unit of this device. -/
  | selectOwn (hst : s.st = .selEnq) (hb : b = 0x05) (u : Nat) (hu : targetUnit s = some u) :
      Transition b s { send [Config.ACK] (selectUnit u s) with st := .hdrSoh }
  /-- R154, for any other id. -/
  | selectOther (hst : s.st = .selEnq) : Transition b s { clearFrame s with st := .idle }
  /-- R156. -/
  | hdrFmt (hst : s.st = .hdrFmt) (hb : b = 0) :
      Transition b s { s with f_fmt := b, cks := accumulate s.cks b, st := .hdrDid }
  /-- R157. -/
  | hdrDid (hst : s.st = .hdrDid) : Transition b s (rxHdrDid b s)
  /-- R158. -/
  | hdrSid (hst : s.st = .hdrSid) : Transition b s (rxHdrSid b s)
  /-- R159. -/
  | hdrFnc (hst : s.st = .hdrFnc) : Transition b s (rxHdrFnc b s)
  /-- R160. -/
  | hdrSiz (hst : s.st = .hdrSiz) : Transition b s (rxHdrSiz b s)
  /-- R161, for a header that announces a text. -/
  | textAnnounced (hst : s.st = .hdrCks) (hsiz : s.f_siz ≠ 0) :
      Transition b s { send [Config.ACK] (noteChecksum b s) with cks := 0, cnt := 0, st := .txtStx }
  /-- R162. -/
  | txtStx (hst : s.st = .txtStx) : Transition b s { s with cks := 0, cnt := 0, st := .txtBody }
  /-- R163. -/
  | txtBody (hst : s.st = .txtBody) : Transition b s (rxTxtBody b s)
  /-- R164. -/
  | txtEtx (hst : s.st = .txtEtx) : Transition b s { s with st := .txtCks }
  /-- R161 without a text, R165. -/
  | request (hst : (s.st = .hdrCks ∧ s.f_siz = 0) ∨ s.st = .txtCks) (hb : b = s.cks) :
      Transition b s (acknowledgeRequest (dispatch (noteChecksum b s)))
  /-- R166. -/
  | replyHeader (hst : s.st = .ackWait) : Transition b s (sendReplyHeader s)
  /-- R167. -/
  | replyText (hst : s.st = .replyHeaderSent) :
      Transition b s { send (encodeText (pendingText s)) s with st := .replyTextSent }
  /-- R168. -/
  | replyEnd (hst : s.st = .replyTextSent) : Transition b s { clearFrame (send [Config.EOT] s) with st := .idle }

theorem startFrame_cases (b : Byte) (s : State) :
    startFrame b s = none ∨
    ∃ st', (st' = .selDid ∨ st' = .hdrFmt) ∧ startFrame b s = some { clearFrame s with st := st' } := by
  unfold startFrame
  split
  · exact .inr ⟨_, .inl rfl, rfl⟩
  · split
    · exact .inr ⟨_, .inr rfl, rfl⟩
    · exact .inl rfl

theorem transition_rxIdle (b : Byte) {s : State} (hst : s.st = .idle) : Transition b s (rxIdle b s) := by
  unfold rxIdle
  rcases startFrame_cases b s with h | ⟨st', hst', h⟩ <;> rw [h]
  · exact .violation (.inl hst)
  · exact .frameStart st' (.inl hst) hst'

theorem transition_rxError (b : Byte) {s : State} (hst : s.st = .error) : Transition b s (rxError b s) := by
  unfold rxError
  rcases startFrame_cases b s with h | ⟨st', hst', h⟩ <;> rw [h]
  · exact .discard hst
  · exact .frameStart st' (.inr (.inr hst)) hst'

theorem transition_rxSelEnq (b : Byte) {s : State} (hst : s.st = .selEnq) : Transition b s (rxSelEnq b s) := by
  unfold rxSelEnq
  split
  · next hb =>
    cases hu : targetUnit s with
    | some u => exact .selectOwn hst hb u hu
    | none => exact .selectOther hst
  · exact .violation (by simp [awaitsFixedByte, hst])

theorem headerChecksumFailure_eq {s : State} (hst : s.st = .hdrCks) (b : Byte) :
    headerChecksumFailure (noteChecksum b s) = enterError s.st (send [Config.NAK] (noteChecksum b s)) := by
  rw [hst]
  rfl

theorem textChecksumFailure_eq {s : State} (hst : s.st = .txtCks) (b : Byte) :
    textChecksumFailure (noteChecksum b s) = enterError s.st (send [Config.NAK] (noteChecksum b s)) := by
  rw [hst]
  rfl

theorem transition_rxHdrCks (b : Byte) {s : State} (hst : s.st = .hdrCks) : Transition b s (rxHdrCks b s) := by
  unfold rxHdrCks
  split
  · next hb =>
    split
    · next hsiz => exact .request (.inl ⟨hst, hsiz⟩) (eq_of_beq hb)
    · next hsiz => exact .textAnnounced hst hsiz
  · rw [headerChecksumFailure_eq hst]
    exact .badChecksum (.inl hst)

theorem transition_rxTxtCks (b : Byte) {s : State} (hst : s.st = .txtCks) : Transition b s (rxTxtCks b s) := by
  unfold rxTxtCks
  split
  · next hb => exact .request (.inr hst) (eq_of_beq hb)
  · rw [textChecksumFailure_eq hst]
    exact .badChecksum (.inr hst)

/-- A rule that accepts one byte and treats every other as a violation. -/
theorem transition_ite {p : Prop} [Decidable p] {b : Byte} {s t : State} (hst : awaitsFixedByte s.st)
    (h : p → Transition b s t) : Transition b s (if p then t else framingViolation s) := by
  split
  · next hp => exact h hp
  · exact .violation hst

/-- Every byte in every state takes one of the transitions. -/
theorem receive_transition (b : Byte) (s : State) : Transition b s (receive b s) := by
  unfold receive
  split <;> rename_i hst
  · exact transition_rxIdle b hst
  · exact .selDid hst
  · exact .selSid hst
  · exact transition_rxSelEnq b hst
  · exact transition_ite (by simp [awaitsFixedByte, hst]) fun _ => .frameStart _ (.inr (.inl hst)) (.inr rfl)
  · exact transition_ite (by simp [awaitsFixedByte, hst]) fun hb => .hdrFmt hst hb
  · exact .hdrDid hst
  · exact .hdrSid hst
  · exact .hdrFnc hst
  · exact .hdrSiz hst
  · exact transition_rxHdrCks b hst
  · exact transition_ite (by simp [awaitsFixedByte, hst]) fun _ => .txtStx hst
  · exact .txtBody hst
  · exact transition_ite (by simp [awaitsFixedByte, hst]) fun _ => .txtEtx hst
  · exact transition_rxTxtCks b hst
  · exact transition_ite (by simp [awaitsFixedByte, hst]) fun _ => .replyHeader hst
  · exact transition_ite (by simp [awaitsFixedByte, hst]) fun _ => .replyText hst
  · exact transition_ite (by simp [awaitsFixedByte, hst]) fun _ => .replyEnd hst
  · exact transition_rxError b hst

/-- The two things a `Timeout` can do (R170). -/
theorem timeout_cases (s : State) : timeout s = s ∨ timeout s = { clearFrame s with st := .idle } := by
  unfold timeout
  split
  · exact .inr rfl
  · exact .inl rfl

/-- A `Timeout` leaves whatever is neither the state register nor the frame. -/
theorem timeout_keeps {α : Type} (π : State → α) (h : ∀ s, π { clearFrame s with st := .idle } = π s) (s : State) :
    π (timeout s) = π s := by
  rcases timeout_cases s with e | e <;> rw [e]
  exact h s

/-- A step over a byte is a transition for it. -/
theorem transition_of_step {s t : State} {b : Byte} {rest : List Event} (h : step s = .next t)
    (hrx : s.rx = .rxByte b :: rest) : Transition b (withRx rest s) t := by
  rw [step_rxByte hrx] at h
  cases h
  exact receive_transition b _

/-- What a step can be (R15, R50): nothing, one byte's transition, a `Timeout` or a `HwReset`. -/
theorem step_cases {s t : State} (h : step s = .next t) :
    (s.rx = [] ∧ t = s) ∨
    (∃ b rest, s.rx = .rxByte b :: rest ∧ Transition b (withRx rest s) t) ∨
    (∃ rest, s.rx = .timeout :: rest ∧ t = timeout (withRx rest s)) ∨
    (∃ rest, s.rx = .hwReset :: rest ∧ t = hwReset (withRx rest s)) := by
  match hrx : s.rx with
  | [] =>
    rw [step_nothing hrx] at h
    cases h
    exact .inl ⟨rfl, rfl⟩
  | .rxByte b :: rest => exact .inr (.inl ⟨b, rest, rfl, transition_of_step h hrx⟩)
  | .timeout :: rest =>
    rw [step_timeout hrx] at h
    cases h
    exact .inr (.inr (.inl ⟨rest, rfl, rfl⟩))
  | .hwReset :: rest =>
    rw [step_hwReset hrx] at h
    cases h
    exact .inr (.inr (.inr ⟨rest, rfl, rfl⟩))

end Sys2Proof.Machine
end

section
/-! PROOFS. Everything a dispatched function can do, said once as a relation (R203 to R211, R230 to R236), and which
transitions reach the drive's own registers and the medium. -/

namespace Sys2Proof.Machine

/-- What dispatching the request in `s` can lead to, a constructor for each function that writes more than
the reply. The reply's text and the bytes that reach the medium are left open. -/
inductive Effect (s : State) : State → Prop
  /-- Nothing but the reply: a refused request, an unknown function, `READ`, `FLUSH`, a `WRITE` or `IMG.CREATE` that is
  turned away. -/
  | replyOnly (R : List Byte) : Effect s (reply R s)
  /-- R203. -/
  | reset (hfnc : s.f_fnc = 0x0D) (hsiz : s.f_siz = 0) (R : List Byte) :
      Effect s (reply R { deselect s with dir_cursor := 0 })
  /-- R204. -/
  | select (hfnc : s.f_fnc = 0x0E) (hsiz : s.f_siz = 0) (u : Nat) (hu : targetUnit s = some u) (R : List Byte) :
      Effect s (reply R (selectUnit u s))
  /-- R206, where the medium was reached. -/
  | write (hfnc : s.f_fnc = 0x78) (hsiz : s.f_siz = 130) (u n : Nat) (m : Memory) (v R : List Byte) :
      Effect s (reply R (storeSector u n m v (takeDraw s)))
  /-- R231. -/
  | imgDir (hfnc : s.f_fnc = 0xE0) (hsiz : s.f_siz = 1) (hsub : s.txt[0] = s.cfg.imgDir) (R : List Byte) :
      Effect s (reply R { s with dir_cursor := nextCursor s })
  /-- R232. -/
  | imgMount (hfnc : s.f_fnc = 0xE0) (hsiz : s.f_siz = 13) (hsub : s.txt[0] = s.cfg.imgMount) (u : Nat) (n : Name)
      (R : List Byte) : Effect s (reply R (mount u n s))
  /-- R233, where the medium refused. -/
  | imgCreateFailed (hfnc : s.f_fnc = 0xE0) (hsiz : s.f_siz = 1) (hsub : s.txt[0] = s.cfg.imgCreate)
      (R : List Byte) : Effect s (reply R (takeDraw s))
  /-- R233. -/
  | imgCreate (hfnc : s.f_fnc = 0xE0) (hsiz : s.f_siz = 1) (hsub : s.txt[0] = s.cfg.imgCreate) (u : Nat)
      (R : List Byte) :
      Effect s (reply R
        { takeDraw s with
          files := Files.put s.files (unitName s u) []
          listing := relist (Files.put s.files (unitName s u) []) (unitName s u) (nextDraw s) s.listing
          dir_cursor := 0 })
  /-- R234. -/
  | imgProtect (hfnc : s.f_fnc = 0xE0) (hsiz : s.f_siz = 1) (hsub : s.txt[0] = s.cfg.imgProtect) (u : Nat)
      (R : List Byte) : Effect s (reply R (toggleProtect u s))
  /-- R235. -/
  | imgDefaults (hfnc : s.f_fnc = 0xE0) (hsiz : s.f_siz = 1) (hsub : s.txt[0] = s.cfg.imgDefaults) (R : List Byte) :
      Effect s (reply R { defaultTable s with dir_cursor := 0 })

theorem effect_malformed (s : State) : Effect s (malformed s) := .replyOnly _

theorem effect_withSize {k : Nat} {f : State → State} {s : State}
    (h : s.f_siz = BitVec.ofNat 8 k → Effect s (f s)) : Effect s (withSize k f s) := by
  rcases withSize_cases k f s with ⟨hk, e⟩ | ⟨-, e⟩ <;> rw [e]
  · exact h (by simp [← hk])
  · exact effect_malformed s

theorem effect_withUnit {f : Nat → State → State} {s : State}
    (h : ∀ u, targetUnit s = some u → Effect s (f u s)) : Effect s (withUnit f s) := by
  rcases withUnit_cases f s with ⟨u, hu, e⟩ | ⟨-, e⟩ <;> rw [e]
  · exact h u hu
  · exact .replyOnly _

theorem effect_fnWrite {s : State} (hfnc : s.f_fnc = 0x78) : Effect s (fnWrite s) :=
  effect_withSize fun hsiz => effect_withUnit fun u _ => by
    rcases memWrite_cases u (sectorNumber (requestText s)) (sectorData (requestText s)) s with
      ⟨-, e⟩ | ⟨-, -, e⟩ | ⟨-, -, -, e⟩ | ⟨m, -, -, -, ⟨-, e⟩ | ⟨-, e⟩⟩ <;> simp only [e]
    · exact .replyOnly _
    · exact .replyOnly _
    · exact .replyOnly _
    · exact .write hfnc hsiz ..
    · exact .write hfnc hsiz ..

theorem effect_createFresh {s : State} (hfnc : s.f_fnc = 0xE0) (hsiz : s.f_siz = 1)
    (hsub : s.txt[0] = s.cfg.imgCreate) (u : Nat) : Effect s (createFresh u s) := by
  unfold createFresh
  rcases createImage_cases u s with ⟨-, e⟩ | ⟨-, e⟩ <;> rw [e]
  · exact .imgCreateFailed hfnc hsiz hsub _
  · exact .imgCreate hfnc hsiz hsub ..

theorem effect_fnImg {s : State} (hfnc : s.f_fnc = 0xE0) : Effect s (fnImg s) := by
  unfold fnImg
  split
  · exact effect_malformed s
  · next hsiz =>
    rw [subOperation_requestText (f_siz_pos hsiz)]
    split
    · next hi =>
      exact effect_withSize fun hsiz => .imgDir hfnc hsiz (by simpa [imgRows] using mem_imgRows hi) _
    · next hi =>
      exact effect_withSize fun hsiz => effect_withUnit fun u _ =>
        .imgMount hfnc hsiz (by simpa [imgRows] using mem_imgRows hi) ..
    · next hi =>
      refine effect_withSize fun hsiz => effect_withUnit fun u _ => ?_
      split
      · exact .replyOnly _
      · exact effect_createFresh hfnc hsiz (by simpa [imgRows] using mem_imgRows hi) u
    · next hi =>
      exact effect_withSize fun hsiz => effect_withUnit fun u _ =>
        .imgProtect hfnc hsiz (by simpa [imgRows] using mem_imgRows hi) ..
    · next hi =>
      exact effect_withSize fun hsiz => .imgDefaults hfnc hsiz (by simpa [imgRows] using mem_imgRows hi) _
    · exact effect_malformed s
    · exact effect_malformed s

/-- Every dispatch has one of the effects. -/
theorem dispatch_effect (s : State) : Effect s (dispatch s) := by
  unfold dispatch
  split
  · next hi => exact effect_withSize fun hsiz => .reset (by simpa [fncRows] using mem_fncRows hi) hsiz _
  · next hi =>
    exact effect_withSize fun hsiz => effect_withUnit fun u hu =>
      .select (by simpa [fncRows] using mem_fncRows hi) hsiz u hu _
  · exact effect_withSize fun _ => effect_withUnit fun _ _ => .replyOnly _
  · next hi => exact effect_fnWrite (by simpa [fncRows] using mem_fncRows hi)
  · exact effect_withSize fun _ => .replyOnly _
  · next hi => exact effect_fnImg (by simpa [fncRows] using mem_fncRows hi)
  · exact effect_malformed s
  · exact effect_malformed s

/-- `t` agrees with `s` in the drive's own registers and the medium (R30 to R34, R75). -/
structure SameDrive (s t : State) : Prop where
  selected : t.selected = s.selected
  wp : t.wp = s.wp
  name : t.name = s.name
  cursor : t.dir_cursor = s.dir_cursor
  files : t.files = s.files
  listing : t.listing = s.listing

/-- The events still to come are no part of the drive. -/
theorem sameDrive_of_withRx {r : List Event} {s t : State} (h : SameDrive (withRx r s) t) : SameDrive s t :=
  ⟨h.selected, h.wp, h.name, h.cursor, h.files, h.listing⟩

/-- Only a select frame's enquiry and a completed request reach the drive. -/
theorem drive_of_transition {b : Byte} {s t : State} (h : Transition b s t) :
    SameDrive s t ∨
    (s.st = .selEnq ∧ b = 0x05 ∧ ∃ u, targetUnit s = some u ∧
      t = { send [Config.ACK] (selectUnit u s) with st := .hdrSoh }) ∨
    (((s.st = .hdrCks ∧ s.f_siz = 0) ∨ s.st = .txtCks) ∧ b = s.cks ∧
      t = acknowledgeRequest (dispatch (noteChecksum b s))) := by
  cases h
  case selectOwn hst hb u hu => exact .inr (.inl ⟨hst, hb, u, hu, rfl⟩)
  case request hst hb => exact .inr (.inr ⟨hst, hb, rfl⟩)
  all_goals exact .inl ⟨rfl, rfl, rfl, rfl, rfl, rfl⟩

theorem sameDrive_timeout (s : State) : SameDrive s (timeout s) := by
  rcases timeout_cases s with e | e <;> rw [e] <;> exact ⟨rfl, rfl, rfl, rfl, rfl, rfl⟩

end Sys2Proof.Machine
end

section
/-! PROOFS. The invariant of reachable states (R54): after power-on and after every step. The registers of the frame,
the size of the pending reply and the drive's registers are treated apart. -/

namespace Sys2Proof.Machine

/-! ## After power-on -/

theorem inv_resetWith {p : Params} {files : List File} {listing : List DirEntry} (h : launchable p files listing) :
    Inv (State.resetWith p files listing) := by
  obtain ⟨hp, hfiles, hlisting⟩ := h
  exact
    { params := hp
      bodyCount := nofun
      bodyComplete := nofun
      textAnnounced := by simp [inText, State.resetWith]
      format := rfl
      replySize := by simp [inReply, State.resetWith]
      cursor := rfl
      selectedUnit := nofun
      quiet := fun _ => ⟨rfl, rfl, rfl, rfl, rfl, rfl, rfl⟩
      running := trivial
      wpTable := by simp [State.resetWith, Params.nUnits]
      nameTable := by simp [State.resetWith, Params.nUnits]
      medium := hfiles
      directory := hlisting }

theorem launchable_reset : launchable Config.params [] [] := ⟨by decide, rfl, rfl⟩

/-- Settles O50: the tables are the parameters' defaults, the medium and its listing those launched with, and every
other condition is met by a clear register. -/
theorem invariantAfterPowerOn : Obligations.InvariantAfterPowerOn :=
  ⟨fun _ _ _ => inv_resetWith, inv_resetWith launchable_reset⟩

/-! ## The registers of the frame -/

/-- The conditions of the invariant on the frame being received (R54 a, b, c, g; R134). -/
structure FrameInv (s : State) : Prop where
  bodyCount : s.st = .txtBody → s.cnt.toNat < s.f_siz.toNat
  bodyComplete : s.st = .txtEtx ∨ s.st = .txtCks → s.cnt = s.f_siz
  textAnnounced : inText s.st → 1 ≤ s.f_siz.toNat
  format : s.f_fmt = 0
  quiet : s.st = .idle ∨ s.st = .error → frameClear s
  running : runningChecksum s

theorem Inv.frame {s : State} (h : Inv s) : FrameInv s :=
  ⟨h.bodyCount, h.bodyComplete, h.textAnnounced, h.format, h.quiet, h.running⟩

/-- Outside a text only the format byte, the clear frame and the running checksum are at stake. -/
theorem frameInv_of_not_inText {s : State} (hst : ¬ inText s.st) (hfmt : s.f_fmt = 0)
    (hquiet : s.st = .idle ∨ s.st = .error → frameClear s) (hrun : runningChecksum s) : FrameInv s where
  bodyCount h := absurd (.inr (.inl h)) hst
  bodyComplete h := absurd (.inr (.inr h)) hst
  textAnnounced h := absurd h hst
  format := hfmt
  quiet := hquiet
  running := hrun

/-- A frame that is clear is in order wherever a frame may be clear. -/
theorem frameInv_of_clear {s : State} (hclear : frameClear s)
    (hst : s.st = .idle ∨ s.st = .error ∨ s.st = .selDid ∨ s.st = .hdrFmt) : FrameInv s := by
  have hfmt := hclear.1
  refine frameInv_of_not_inText ?_ hfmt (fun _ => hclear) ?_
  · rcases hst with h | h | h | h <;> simp [inText, h]
  · obtain ⟨-, -, -, -, -, hcks, -⟩ := hclear
    rcases hst with h | h | h | h <;> simp [runningChecksum, h, hcks]

theorem frameClear_clearFrame (s : State) : frameClear (clearFrame s) := ⟨rfl, rfl, rfl, rfl, rfl, rfl, rfl⟩

/-- A frame of the right format is in order where no sum is running and it need not be clear. -/
theorem frameInv_of_unsummed {s : State} (hfmt : s.f_fmt = 0)
    (hst : s.st = .selSid ∨ s.st = .selEnq ∨ s.st = .hdrSoh ∨ inReply s.st) : FrameInv s := by
  refine frameInv_of_not_inText ?_ hfmt ?_ ?_ <;>
    rcases hst with h | h | h | h | h | h <;> simp [inText, runningChecksum, h]

theorem sum8_singleton (b : Byte) : sum8 [b] = b := by simp [sum8]

/-- R134: one more byte accumulated is one more byte summed. -/
theorem accumulate_eq_sum8 {c : Byte} {l : List Byte} (h : c = sum8 l) (b : Byte) :
    accumulate c b = sum8 (l ++ [b]) := by
  rw [sum8_append, sum8_singleton, h]
  rfl

/-- A header field received keeps the running checksum. -/
theorem frameInv_of_headerField {s : State} (hfmt : s.f_fmt = 0)
    (hst : s.st = .hdrDid ∨ s.st = .hdrSid ∨ s.st = .hdrFnc ∨ s.st = .hdrSiz ∨ s.st = .hdrCks)
    (hrun : runningChecksum s) : FrameInv s := by
  refine frameInv_of_not_inText ?_ hfmt ?_ hrun <;> rcases hst with h | h | h | h | h <;> simp [inText, h]

/-- R134 for a state register that is known: its equation for `cks`. -/
theorem FrameInv.running_of_st {s : State} {st : St} (h : FrameInv s) (hst : s.st = st) :
    runningChecksum { s with st := st } := hst ▸ h.running

theorem rxTxtBody_st_last (b : Byte) {s : State} (h : s.cnt + 1 = s.f_siz) : (rxTxtBody b s).st = .txtEtx := if_pos h

theorem rxTxtBody_st_more (b : Byte) {s : State} (h : ¬ s.cnt + 1 = s.f_siz) : (rxTxtBody b s).st = .txtBody :=
  if_neg h

theorem rxTxtBody_st_cases (b : Byte) (s : State) : (rxTxtBody b s).st = .txtEtx ∨ (rxTxtBody b s).st = .txtBody :=
  (em (s.cnt + 1 = s.f_siz)).imp (rxTxtBody_st_last b) (rxTxtBody_st_more b)

theorem frameInv_rxTxtBody {b : Byte} {s : State} (h : FrameInv s) (hst : s.st = .txtBody) :
    FrameInv (rxTxtBody b s) := by
  have hlt := h.bodyCount hst
  have hsiz : 1 ≤ s.f_siz.toNat := by omega
  have hcnt := toNat_cnt_succ hlt
  have hrun : s.cks = textCks (s.txt.toList.take s.cnt.toNat) := h.running_of_st hst
  have hsum : (rxTxtBody b s).cks = textCks ((rxTxtBody b s).txt.toList.take (s.cnt + 1).toNat) := by
    rw [hcnt, take_rxTxtBody b hlt]
    exact accumulate_eq_sum8 hrun b
  by_cases hlast : s.cnt + 1 = s.f_siz
  · have hst' := rxTxtBody_st_last b hlast
    exact
      { bodyCount := by simp [hst']
        bodyComplete := fun _ => hlast
        textAnnounced := fun _ => hsiz
        format := h.format
        quiet := by simp [hst']
        running := by simp only [runningChecksum, hst']; exact hsum }
  · have hst' := rxTxtBody_st_more b hlast
    have hmore : (s.cnt + 1).toNat < s.f_siz.toNat := by
      rw [cnt_succ_eq_iff hlt] at hlast
      omega
    exact
      { bodyCount := fun _ => hmore
        bodyComplete := by simp [hst']
        textAnnounced := fun _ => hsiz
        format := h.format
        quiet := by simp [hst']
        running := by simp only [runningChecksum, hst']; exact hsum }

theorem frameInv_of_transition {b : Byte} {s t : State} (h : FrameInv s) (ht : Transition b s t) : FrameInv t := by
  cases ht
  case violation | badChecksum => exact frameInv_of_clear (frameClear_clearFrame s) (.inr (.inl rfl))
  case frameStart hst' => exact frameInv_of_clear (frameClear_clearFrame s) (.inr (.inr hst'))
  case discard => exact h
  case selectOther | replyEnd => exact frameInv_of_clear (frameClear_clearFrame s) (.inl rfl)
  case selDid | selSid | selectOwn | replyHeader | replyText =>
    exact frameInv_of_unsummed h.format (by simp [rxSelDid, rxSelSid, sendReplyHeader, inReply])
  case request =>
    exact frameInv_of_unsummed ((dispatch_f_fmt _).trans h.format) (by simp [inReply])
  case hdrFmt hst hb =>
    have hrun : s.cks = sum8 [] := h.running_of_st hst
    exact frameInv_of_headerField hb (.inl rfl) ((accumulate_eq_sum8 hrun b).trans (sum8_singleton b))
  case hdrDid hst =>
    have hrun : s.cks = s.f_fmt := h.running_of_st hst
    exact frameInv_of_headerField h.format (by simp [rxHdrDid])
      (accumulate_eq_sum8 (hrun.trans (sum8_singleton _).symm) b)
  case hdrSid hst =>
    exact frameInv_of_headerField h.format (by simp [rxHdrSid]) (accumulate_eq_sum8 (h.running_of_st hst) b)
  case hdrFnc hst =>
    exact frameInv_of_headerField h.format (by simp [rxHdrFnc]) (accumulate_eq_sum8 (h.running_of_st hst) b)
  case hdrSiz hst =>
    exact frameInv_of_headerField h.format (by simp [rxHdrSiz]) (accumulate_eq_sum8 (h.running_of_st hst) b)
  case textAnnounced hsiz => exact ⟨nofun, by simp, fun _ => f_siz_pos hsiz, h.format, by simp, trivial⟩
  case txtStx hst =>
    have hsiz := h.textAnnounced (.inl hst)
    exact ⟨fun _ => hsiz, by simp, fun _ => hsiz, h.format, by simp, rfl⟩
  case txtBody hst => exact frameInv_rxTxtBody h hst
  case txtEtx hst =>
    have hrun : s.cks = textCks (s.txt.toList.take s.cnt.toNat) := h.running_of_st hst
    exact ⟨nofun, fun _ => h.bodyComplete (.inl hst), fun _ => h.textAnnounced (.inr (.inr (.inl hst))), h.format,
      by simp, hrun⟩

theorem frameInv_timeout {s : State} (h : FrameInv s) : FrameInv (timeout s) := by
  rcases timeout_cases s with e | e <;> rw [e]
  · exact h
  · exact frameInv_of_clear (frameClear_clearFrame s) (.inl rfl)

/-! ## The pending reply -/

/-- R54 (d): a dispatch assembles 1 to 129 bytes, and sending them does not change how many there are. -/
theorem replySize_of_transition {b : Byte} {s t : State}
    (h : inReply s.st → 1 ≤ s.r_siz.toNat ∧ s.r_siz.toNat ≤ 129) (ht : Transition b s t) :
    inReply t.st → 1 ≤ t.r_siz.toNat ∧ t.r_siz.toNat ≤ 129 := by
  cases ht
  case request =>
    have hclosed := closed_dispatch (noteChecksum b s)
    exact fun _ => ⟨hclosed.sizeLow, hclosed.sizeHigh⟩
  case replyHeader hst => exact fun _ => h (.inl hst)
  case replyText hst => exact fun _ => h (.inr (.inl hst))
  case discard => exact h
  case frameStart hst' => rcases hst' with rfl | rfl <;> simp [inReply]
  case txtBody =>
    rcases rxTxtBody_st_cases b s with hst | hst <;> simp [inReply, hst]
  all_goals simp [inReply, rxSelDid, rxSelSid, rxHdrDid, rxHdrSid, rxHdrFnc, rxHdrSiz]

theorem replySize_timeout {s : State} (h : inReply s.st → 1 ≤ s.r_siz.toNat ∧ s.r_siz.toNat ≤ 129) :
    inReply (timeout s).st → 1 ≤ (timeout s).r_siz.toNat ∧ (timeout s).r_siz.toNat ≤ 129 := by
  rcases timeout_cases s with e | e <;> rw [e]
  · exact h
  · simp [inReply]

/-! ## The drive -/

theorem keeps_of_sameDrive {s t : State} (h : SameDrive s t) : Keeps s t :=
  keeps_of (.inl h.cursor) (.inl h.selected) (.inl (congrArg _ h.wp)) (.inl (congrArg _ h.name)) h.files h.listing

theorem keeps_of_transition {b : Byte} {s t : State} (ht : Transition b s t) : Keeps s t := by
  rcases drive_of_transition ht with h | ⟨-, -, u, hu, rfl⟩ | ⟨-, -, rfl⟩
  · exact keeps_of_sameDrive h
  · exact ⟨id, fun _ v hv => by cases hv; exact targetUnit_lt hu, id, id, id, fun _ => id⟩
  · obtain ⟨hcur, hsel, hwp, hname, hmed, hdir⟩ := keeps_dispatch (noteChecksum b s)
    exact ⟨hcur, hsel, hwp, hname, hmed, hdir⟩

theorem cfg_of_transition {b : Byte} {s t : State} (ht : Transition b s t) : t.cfg = s.cfg := by
  cases ht
  case request => exact dispatch_cfg _
  all_goals rfl

theorem cfg_timeout (s : State) : (timeout s).cfg = s.cfg := timeout_keeps State.cfg (fun _ => rfl) s

/-! ## The steps -/

theorem inv_of_parts {s t : State} (h : Inv s) (hcfg : t.cfg = s.cfg) (hframe : FrameInv t)
    (hreply : inReply t.st → 1 ≤ t.r_siz.toNat ∧ t.r_siz.toNat ≤ 129) (hdrive : Keeps s t) : Inv t where
  params := hcfg ▸ h.params
  bodyCount := hframe.bodyCount
  bodyComplete := hframe.bodyComplete
  textAnnounced := hframe.textAnnounced
  format := hframe.format
  replySize := hreply
  cursor := hdrive.cursor h.cursor
  selectedUnit := hcfg ▸ hdrive.selectedUnit h.selectedUnit
  quiet := hframe.quiet
  running := hframe.running
  wpTable := hcfg ▸ hdrive.wpTable h.wpTable
  nameTable := hcfg ▸ hdrive.nameTable h.nameTable
  medium := hcfg ▸ hdrive.medium h.medium
  directory := hdrive.directory h.medium h.directory

theorem inv_of_transition {b : Byte} {s t : State} (h : Inv s) (ht : Transition b s t) : Inv t :=
  inv_of_parts h (cfg_of_transition ht) (frameInv_of_transition h.frame ht) (replySize_of_transition h.replySize ht)
    (keeps_of_transition ht)

theorem inv_timeout {s : State} (h : Inv s) : Inv (timeout s) :=
  inv_of_parts h (cfg_timeout s) (frameInv_timeout h.frame) (replySize_timeout h.replySize)
    (keeps_of_sameDrive (sameDrive_timeout s))

/-- The log and the inputs still to come have no part in the invariant. -/
theorem inv_withInputs {s : State} (h : Inv s) (tx : List Byte) (rx : List Event) (env : List Draw) (drawn : Nat) :
    Inv { s with tx := tx, rx := rx, env := env, drawn := drawn } := by
  obtain ⟨h1, h2, h3, h4, h5, h6, h7, h8, h9, h10, h11, h12, h13, h14⟩ := h
  exact ⟨h1, h2, h3, h4, h5, h6, h7, h8, h9, h10, h11, h12, h13, h14⟩

theorem inv_withRx {s : State} (h : Inv s) (r : List Event) : Inv (withRx r s) := inv_withInputs h s.tx r s.env s.drawn

theorem inv_hwReset {s : State} (h : Inv s) : Inv (hwReset s) :=
  inv_withInputs (inv_resetWith ⟨h.params, h.medium, h.directory⟩) s.tx s.rx s.env s.drawn

/-- Settles O49, by the kinds of step: a byte's transition keeps each part of the invariant, a `Timeout` clears the
frame or does nothing, and `HwReset` is power-on with the medium as it is. -/
theorem stepKeepsTheInvariant : Obligations.StepKeepsTheInvariant := by
  intro s t h hstep
  rcases step_cases hstep with ⟨-, rfl⟩ | ⟨b, rest, -, ht⟩ | ⟨rest, -, rfl⟩ | ⟨rest, -, rfl⟩
  · exact h
  · exact inv_of_transition (inv_withRx h rest) ht
  · exact inv_timeout (inv_withRx h rest)
  · exact inv_hwReset (inv_withRx h rest)

end Sys2Proof.Machine
end

section
/-! PROOFS. What a step can do to the log of sent bytes, the latest-field registers, `err_prev`, the selection and the
drive table (R27, R28, R30 to R32, R52). -/

namespace Sys2Proof.Machine

/-! ## The log of sent bytes -/

theorem tx_prefix_of_transition {b : Byte} {s t : State} (ht : Transition b s t) : s.tx <+: t.tx := by
  cases ht
  case badChecksum | selectOwn | textAnnounced | replyHeader | replyText | replyEnd => exact List.prefix_append ..
  case request => simp
  all_goals exact List.prefix_rfl

theorem tx_timeout (s : State) : (timeout s).tx = s.tx := timeout_keeps State.tx (fun _ => rfl) s

/-- Settles O53, by the kinds of step: a transition sends or it does not, and no other step writes the log; the
parameters are in no transition and are what `HwReset` starts from. -/
theorem sentBytesAndParametersStay : Obligations.SentBytesAndParametersStay := by
  intro s t hstep
  rcases step_cases hstep with ⟨-, rfl⟩ | ⟨b, rest, -, ht⟩ | ⟨rest, -, rfl⟩ | ⟨rest, -, rfl⟩
  · exact ⟨List.prefix_rfl, rfl⟩
  · exact ⟨(tx_prefix_of_transition ht :), (cfg_of_transition ht :)⟩
  · exact ⟨(tx_timeout (withRx rest s)) ▸ List.prefix_rfl, cfg_timeout _⟩
  · exact ⟨List.prefix_rfl, rfl⟩

/-! ## The latest-field registers -/

@[simp] theorem dispatch_lat_did (s : State) : (dispatch s).lat_did = s.lat_did := by rw [(closed_dispatch s).same]
@[simp] theorem dispatch_lat_sid (s : State) : (dispatch s).lat_sid = s.lat_sid := by rw [(closed_dispatch s).same]
@[simp] theorem dispatch_lat_fnc (s : State) : (dispatch s).lat_fnc = s.lat_fnc := by rw [(closed_dispatch s).same]
@[simp] theorem dispatch_lat_siz (s : State) : (dispatch s).lat_siz = s.lat_siz := by rw [(closed_dispatch s).same]
@[simp] theorem dispatch_lat_cks (s : State) : (dispatch s).lat_cks = s.lat_cks := by rw [(closed_dispatch s).same]

/-- The latest-field registers of `t` after `b` was received in `s` (R27). -/
def LatestTaken (b : Byte) (s t : State) : Prop :=
  t.lat_did = (if s.st = .selDid ∨ s.st = .hdrDid then b else s.lat_did) ∧
  t.lat_sid = (if s.st = .selSid ∨ s.st = .hdrSid then b else s.lat_sid) ∧
  t.lat_fnc = (if s.st = .hdrFnc then b else s.lat_fnc) ∧
  t.lat_siz = (if s.st = .hdrSiz then b else s.lat_siz) ∧
  t.lat_cks = (if s.st = .hdrCks ∨ s.st = .txtCks then b else s.lat_cks)

/-- The latest-field registers of `t` are those of `s`. -/
def LatestSame (s t : State) : Prop :=
  t.lat_did = s.lat_did ∧ t.lat_sid = s.lat_sid ∧ t.lat_fnc = s.lat_fnc ∧ t.lat_siz = s.lat_siz ∧
    t.lat_cks = s.lat_cks

/-- The states that await a field of which the latest value is kept. -/
def awaitsField (st : St) : Prop :=
  st = .selDid ∨ st = .selSid ∨ st = .hdrDid ∨ st = .hdrSid ∨ st = .hdrFnc ∨ st = .hdrSiz ∨ st = .hdrCks ∨ st = .txtCks

theorem latestTaken_of_same {b : Byte} {s t : State} (hst : ¬ awaitsField s.st) (h : LatestSame s t) :
    LatestTaken b s t := by
  simp only [awaitsField, not_or] at hst
  simpa [LatestTaken, LatestSame, hst] using h

theorem latestTaken_of_checksum {b : Byte} {s t : State} (hst : s.st = .hdrCks ∨ s.st = .txtCks)
    (h : LatestSame (noteChecksum b s) t) : LatestTaken b s t := by
  rcases hst with hst | hst <;> simpa [LatestTaken, LatestSame, hst] using h

theorem not_awaitsField_of_fixedByte {st : St} (h : awaitsFixedByte st) : ¬ awaitsField st := by
  rcases h with rfl | rfl | rfl | rfl | rfl | rfl | rfl | rfl | rfl <;> simp [awaitsField]

theorem latestTaken_of_transition {b : Byte} {s t : State} (ht : Transition b s t) : LatestTaken b s t := by
  cases ht
  case violation hst => exact latestTaken_of_same (not_awaitsField_of_fixedByte hst) ⟨rfl, rfl, rfl, rfl, rfl⟩
  case badChecksum hst => exact latestTaken_of_checksum hst ⟨rfl, rfl, rfl, rfl, rfl⟩
  case textAnnounced hst _ => exact latestTaken_of_checksum (.inl hst) ⟨rfl, rfl, rfl, rfl, rfl⟩
  case request hst _ => exact latestTaken_of_checksum (hst.imp_left And.left) (by simp [LatestSame])
  case frameStart hst _ =>
    refine latestTaken_of_same ?_ ⟨rfl, rfl, rfl, rfl, rfl⟩
    rcases hst with hst | hst | hst <;> simp [awaitsField, hst]
  case selDid hst | selSid hst | hdrDid hst | hdrSid hst | hdrFnc hst | hdrSiz hst =>
    simp [LatestTaken, hst, rxSelDid, rxSelSid, rxHdrDid, rxHdrSid, rxHdrFnc, rxHdrSiz]
  all_goals exact latestTaken_of_same (by simp [awaitsField, *]) ⟨rfl, rfl, rfl, rfl, rfl⟩

theorem latestSame_timeout (s : State) : LatestSame s (timeout s) := by
  rcases timeout_cases s with e | e <;> rw [e] <;> exact ⟨rfl, rfl, rfl, rfl, rfl⟩

/-- Settles O54: a transition takes the byte exactly out of a field state (`latestTaken_of_transition`), a `Timeout`
leaves the five registers, and `HwReset` clears them. -/
theorem latestFields : Obligations.LatestFields := by
  intro s t hstep
  refine ⟨fun b rest hrx => (latestTaken_of_transition (transition_of_step hstep hrx) :), fun rest hrx => ?timeout,
    fun rest hrx => ?hwReset⟩
  case timeout =>
    cases (step_timeout hrx).symm.trans hstep
    exact latestSame_timeout (withRx rest s)
  case hwReset =>
    cases (step_hwReset hrx).symm.trans hstep
    exact ⟨rfl, rfl, rfl, rfl, rfl⟩

/-! ## The record of the latest exception -/

theorem not_error_of_fixedByte {st : St} (h : awaitsFixedByte st) : st ≠ .error := by
  rcases h with rfl | rfl | rfl | rfl | rfl | rfl | rfl | rfl | rfl <;> simp

/-- R28: a transition writes `err_prev` if and only if it enters `S_ERROR`. -/
theorem err_prev_of_transition {b : Byte} {s t : State} (ht : Transition b s t) :
    t.err_prev = if t.st = .error ∧ s.st ≠ .error then s.st else s.err_prev := by
  cases ht
  case violation hst => simp [not_error_of_fixedByte hst]
  case badChecksum hst => rcases hst with hst | hst <;> simp [hst]
  case discard hst => simp [hst]
  case frameStart hst' => rcases hst' with rfl | rfl <;> simp
  case txtBody =>
    have hne : (rxTxtBody b s).st ≠ .error := by rcases rxTxtBody_st_cases b s with h | h <;> simp [h]
    rw [if_neg fun h => hne h.1]
    rfl
  all_goals simp [rxSelDid, rxSelSid, rxHdrDid, rxHdrSid, rxHdrFnc, rxHdrSiz, sendReplyHeader]

theorem err_prev_timeout (s : State) : (timeout s).err_prev = s.err_prev :=
  timeout_keeps State.err_prev (fun _ => rfl) s

/-- Settles O55: of the transitions only the two exceptions write `err_prev` (`err_prev_of_transition`). -/
theorem errPrevIsWrittenByExceptionsOnly : Obligations.ErrPrevIsWrittenByExceptionsOnly := by
  intro s t hstep
  refine ⟨fun b rest hrx => (err_prev_of_transition (transition_of_step hstep hrx) :), fun rest hrx => ?timeout,
    fun rest hrx => ?hwReset⟩
  case timeout =>
    cases (step_timeout hrx).symm.trans hstep
    exact err_prev_timeout (withRx rest s)
  case hwReset =>
    cases (step_hwReset hrx).symm.trans hstep
    rfl

/-! ## The selection and the drive table -/

/-- A step that leaves the drive's registers or the medium other than they were is `HwReset`, the enquiry that selects a
unit, or the last checksum byte of a request, with what the dispatched function did to the rest of the state. -/
theorem drive_of_step {s t : State} (hstep : step s = .next t) :
    SameDrive s t ∨
    (∃ rest, s.rx = .hwReset :: rest ∧ t = hwReset (withRx rest s)) ∨
    (∃ rest u, s.rx = .rxByte 0x05 :: rest ∧ s.st = .selEnq ∧
      t = { send [Config.ACK] (selectUnit u (withRx rest s)) with st := .hdrSoh }) ∨
    (∃ rest d, s.rx = .rxByte s.cks :: rest ∧ ((s.st = .hdrCks ∧ s.f_siz = 0) ∨ s.st = .txtCks) ∧
      Effect (noteChecksum s.cks (withRx rest s)) d ∧ t = acknowledgeRequest d) := by
  rcases step_cases hstep with ⟨-, rfl⟩ | ⟨b, rest, hrx, ht⟩ | ⟨rest, -, rfl⟩ | ⟨rest, hrx, rfl⟩
  · exact .inl ⟨rfl, rfl, rfl, rfl, rfl, rfl⟩
  · rcases drive_of_transition ht with h | ⟨hst, rfl, u, -, rfl⟩ | ⟨hst, hb, rfl⟩
    · exact .inl (sameDrive_of_withRx h)
    · exact .inr (.inr (.inl ⟨rest, u, hrx, hst, rfl⟩))
    · have hb : b = s.cks := hb
      subst hb
      exact .inr (.inr (.inr ⟨rest, _, hrx, hst, dispatch_effect _, rfl⟩))
  · exact .inl (sameDrive_of_withRx (sameDrive_timeout (withRx rest s)))
  · exact .inr (.inl ⟨rest, hrx, rfl⟩)

/-- The functions that change the selection (R203, R204). -/
theorem selected_of_effect {s t : State} (h : Effect s t) (hne : t.selected ≠ s.selected) :
    s.f_siz = 0 ∧ (s.f_fnc = 0x0D ∨ s.f_fnc = 0x0E) := by
  cases h
  case reset hfnc hsiz _ => exact ⟨hsiz, .inl hfnc⟩
  case select hfnc hsiz _ _ _ => exact ⟨hsiz, .inr hfnc⟩
  all_goals exact absurd rfl hne

/-- The functions that change a write-protect flag (R234, R235). -/
theorem wp_of_effect {s t : State} (h : Effect s t) (hne : t.wp ≠ s.wp) :
    s.f_fnc = 0xE0 ∧ s.f_siz = 1 ∧ (s.txt[0] = s.cfg.imgProtect ∨ s.txt[0] = s.cfg.imgDefaults) := by
  cases h
  case imgProtect hfnc hsiz hsub _ _ => exact ⟨hfnc, hsiz, .inl hsub⟩
  case imgDefaults hfnc hsiz hsub _ => exact ⟨hfnc, hsiz, .inr hsub⟩
  all_goals exact absurd rfl hne

/-- The functions that change a name (R232, R235). -/
theorem name_of_effect {s t : State} (h : Effect s t) (hne : t.name ≠ s.name) :
    s.f_fnc = 0xE0 ∧
      ((s.f_siz = 13 ∧ s.txt[0] = s.cfg.imgMount) ∨ (s.f_siz = 1 ∧ s.txt[0] = s.cfg.imgDefaults)) := by
  cases h
  case imgMount hfnc hsiz hsub _ _ _ => exact ⟨hfnc, .inl ⟨hsiz, hsub⟩⟩
  case imgDefaults hfnc hsiz hsub _ => exact ⟨hfnc, .inr ⟨hsiz, hsub⟩⟩
  all_goals exact absurd rfl hne

/-- Settles O56, by what can reach the drive (`drive_of_step`) and which functions change the selection. -/
theorem selectedChangesOnlyBy : Obligations.SelectedChangesOnlyBy := by
  intro s t hstep hne
  rcases drive_of_step hstep with h | ⟨rest, hrx, -⟩ | ⟨rest, u, hrx, hst, -⟩ | ⟨rest, d, hrx, hst, hd, rfl⟩
  · exact absurd h.selected hne
  · exact .inl ⟨rest, hrx⟩
  · exact .inr (.inl ⟨rest, hrx, hst⟩)
  · exact .inr (.inr ⟨rest, hrx, hst.imp_left And.left, (selected_of_effect hd hne :)⟩)

/-- A request with a text is completed in `S_TXT_CKS`. -/
theorem txtCks_of_f_siz_ne {s : State} (h : (s.st = .hdrCks ∧ s.f_siz = 0) ∨ s.st = .txtCks) (hsiz : s.f_siz ≠ 0) :
    s.st = .txtCks :=
  h.resolve_left fun h => hsiz h.2

/-- Settles O57, by what can reach the drive (`drive_of_step`) and which functions change a flag or a name; each of
these has a text. -/
theorem driveTableChangesOnlyBy : Obligations.DriveTableChangesOnlyBy := by
  intro s t hstep
  rcases drive_of_step hstep with h | ⟨rest, hrx, -⟩ | ⟨rest, u, -, -, rfl⟩ | ⟨rest, d, hrx, hst, hd, rfl⟩
  · exact ⟨(absurd h.wp ·), (absurd h.name ·)⟩
  · exact ⟨fun _ => .inl ⟨rest, hrx⟩, fun _ => .inl ⟨rest, hrx⟩⟩
  · exact ⟨(absurd rfl ·), (absurd rfl ·)⟩
  · refine ⟨fun hne => .inr ⟨rest, hrx, ?flag⟩, fun hne => .inr ⟨rest, hrx, ?name⟩⟩
    case flag =>
      obtain ⟨hfnc, hsiz, hsub⟩ := wp_of_effect hd hne
      exact ⟨txtCks_of_f_siz_ne hst (by rw [show s.f_siz = 1 from hsiz]; decide), hfnc, hsiz, hsub⟩
    case name =>
      obtain ⟨hfnc, hsub⟩ := name_of_effect hd hne
      refine ⟨txtCks_of_f_siz_ne hst fun hsiz => ?_, hfnc, hsub⟩
      rcases hsub with ⟨h, -⟩ | ⟨h, -⟩ <;> exact absurd (hsiz.symm.trans h) (by decide)

end Sys2Proof.Machine
end

section
/-! PROOFS. The medium (R60 to R82): what a stored sector reads as, when `WRITE` reaches the medium and what it leaves
there, and which steps change the medium or the listing. -/

namespace Sys2Proof.Machine

/-! ## Sectors of an image -/

namespace Memory

theorem readList_congr {fill : Byte} {m m' : Memory} {a n : Nat}
    (h : ∀ i < n, read fill m (a + i) = read fill m' (a + i)) : readList fill m a n = readList fill m' a n :=
  List.map_congr_left fun i hi => h i (List.mem_range.mp hi)

/-- The bytes written are read back. -/
theorem readList_writeList {fill : Byte} {m : Memory} {a : Nat} {bs : List Byte} (h : wf fill m = true)
    (ha : a + bs.length ≤ Config.IMAGE_BYTES) : readList fill (writeList fill m a bs) a bs.length = bs := by
  apply List.ext_getElem (length_readList ..)
  intro i _ hi
  simp [readList, read_writeList h ha, hi]

/-- Writing the same bytes once more changes nothing (R67). -/
theorem writeList_writeList {fill : Byte} {m : Memory} {a : Nat} {bs : List Byte} (h : wf fill m = true)
    (ha : a + bs.length ≤ Config.IMAGE_BYTES) :
    writeList fill (writeList fill m a bs) a bs = writeList fill m a bs := by
  have h' := wf_writeList h ha
  refine eq_of_read_eq (wf_writeList h' ha) h' fun x => ?_
  rw [read_writeList h' ha, read_writeList h ha]
  split <;> rfl

end Memory

/-- Storing the image that a name already has changes nothing. -/
theorem Files.put_of_find {fill : Byte} {lo : Nat} {fs : List File} {n : Name} {m : Memory}
    (h : wfFrom fill lo fs = true) (hf : find fs n = some m) : put fs n m = fs := by
  induction fs generalizing lo with
  | nil => cases hf
  | cons f fs ih =>
    simp only [wfFrom, Bool.and_eq_true, decide_eq_true_eq] at h
    obtain ⟨-, htail⟩ := h
    by_cases hname : f.name = n
    · simp only [find, hname, if_true, Option.some.injEq] at hf
      simp [put, ← hname, ← hf]
    · simp only [find, hname, if_false] at hf
      have hlt : nameKey f.name < nameKey n := by
        by_contra hge
        rw [find_none_of_lt htail (by omega)] at hf
        cases hf
      simp [put, hlt, ih htail hf]

theorem sector_fits_image {n : Nat} {v : List Byte} (hn : n < 2560) (hv : v.length = 128) :
    Config.SECTOR_BYTES * n + v.length ≤ Config.IMAGE_BYTES := by
  rw [hv]
  simp only [Config.SECTOR_BYTES, Config.IMAGE_BYTES]
  omega

/-- The unit's image after a store, and every other image as it was (R71). -/
theorem find_storeSector {s : State} (h : Files.wf s.cfg.newImageFill s.files = true) (u n : Nat) (m : Memory)
    (v : List Byte) (x : Name) :
    Files.find (storeSector u n m v s).files x =
      if x = unitName s u then some (m.writeList s.cfg.newImageFill (Config.SECTOR_BYTES * n) v)
      else Files.find s.files x :=
  Files.find_put _ _ h x

/-- A store over a present image makes no image appear or disappear. -/
theorem isSome_find_storeSector {s : State} (h : Files.wf s.cfg.newImageFill s.files = true) {u : Nat} {m : Memory}
    (hm : imageOf s u = some m) (n : Nat) (v : List Byte) (x : Name) :
    (Files.find (storeSector u n m v s).files x).isSome = (Files.find s.files x).isSome := by
  rw [find_storeSector h]
  split
  · next hx => rw [hx, show Files.find s.files (unitName s u) = some m from hm]; rfl
  · rfl

/-- A store leaves every byte outside its sector as it was, in every image (R66, R72). -/
theorem read_storeSector_outside {s : State} (h : Files.wf s.cfg.newImageFill s.files = true) {u n : Nat}
    {m : Memory} {v : List Byte} (hm : imageOf s u = some m) (hn : n < 2560) (hv : v.length = 128)
    {x : Name} {m₀ m₁ : Memory} (h₀ : Files.find s.files x = some m₀)
    (h₁ : Files.find (storeSector u n m v s).files x = some m₁) {a : Nat}
    (ha : ¬ (x = unitName s u ∧ 128 * n ≤ a ∧ a < 128 * n + 128)) :
    Memory.read s.cfg.newImageFill m₁ a = Memory.read s.cfg.newImageFill m₀ a := by
  rw [find_storeSector h] at h₁
  split at h₁
  · next hx =>
    subst hx
    cases hm.symm.trans h₀
    cases h₁
    rw [Memory.read_writeList (Files.wf_of_find h hm) (sector_fits_image hn hv), hv, if_neg fun hin => ha ⟨rfl, hin⟩]
  · cases h₀.symm.trans h₁
    rfl

/-! ## When `WRITE` reaches the medium, and what it leaves there -/

/-- The request in `s`, taken as a `WRITE`, reaches image `m` of unit `u`: it passes every test of R202 and R71 that
comes before the medium's answer. -/
structure ReachesMedium (s : State) (u : Nat) (m : Memory) : Prop where
  size : s.f_siz = 130
  target : targetUnit s = some u
  unprotected : unitWp s u = false
  inRange : sectorNumber (requestText s) < 2560
  image : imageOf s u = some m

/-- What the addressed sector holds after a `WRITE` that reached the medium (R71, R72). -/
def storedBytes (s : State) : List Byte :=
  if (nextDraw s).fails then (nextDraw s).left.toList else (s.txt.toList.drop 2).take 128

/-- The status of a `WRITE` that reached the medium (R206). -/
def storeStatus (s : State) : Byte := if (nextDraw s).fails then Config.ST_WRITE_ERR else Config.ST_OK

theorem length_storedBytes (s : State) : (storedBytes s).length = 128 := by
  unfold storedBytes
  split <;> simp

theorem storedBytes_of_success {s : State} (h : (nextDraw s).fails = false) :
    storedBytes s = (s.txt.toList.drop 2).take 128 := by simp [storedBytes, h]

theorem storeStatus_of_success {s : State} (h : (nextDraw s).fails = false) : storeStatus s = 0x00 := by
  simp [storeStatus, h]

/-- The state after a `WRITE` that reached image `m` of unit `u`, but for the reply. -/
def sectorWritten (u : Nat) (m : Memory) (s : State) : State :=
  storeSector u (sectorNumber (requestText s)) m (storedBytes s) (takeDraw s)

theorem exec_write (s : State) : exec .write s = .next (fnWrite s) := rfl

theorem exec_read (s : State) : exec .read s = .next (fnRead s) := rfl

theorem exec_write_of_reaches {s : State} {u : Nat} {m : Memory} (h : ReachesMedium s u m) :
    exec .write s = .next (reply [storeStatus s] (sectorWritten u m s)) := by
  have hn : ¬ Config.DISK_SECTORS ≤ sectorNumber (requestText s) := Nat.not_le.mpr h.inRange
  rw [exec_write_of_size (f_siz_toNat h.size) h.target]
  cases hf : (nextDraw s).fails <;>
    simp [memWrite, h.unprotected, hn, h.image, hf, writeStatus, storeStatus, sectorWritten, storedBytes]

/-- A `WRITE` that does not reach the medium writes nothing but the reply. -/
theorem exec_write_of_refused {s : State} (h : ∀ u m, ¬ ReachesMedium s u m) :
    ∃ b, exec .write s = .next (reply [b] s) := by
  rw [exec_write, fnWrite]
  rcases withSize_cases 130 _ s with ⟨hk, e⟩ | ⟨-, e⟩ <;> rw [e]
  swap
  · exact ⟨_, rfl⟩
  rcases withUnit_cases _ s with ⟨u, hu, e⟩ | ⟨-, e⟩ <;> rw [e]
  swap
  · exact ⟨_, rfl⟩
  rcases memWrite_cases u (sectorNumber (requestText s)) (sectorData (requestText s)) s with
    ⟨-, e⟩ | ⟨-, -, e⟩ | ⟨-, -, -, e⟩ | ⟨m, hwp, hn, hm, -⟩
  · exact ⟨_, by rw [e]⟩
  · exact ⟨_, by rw [e]⟩
  · exact ⟨_, by rw [e]⟩
  · exact absurd ⟨BitVec.eq_of_toNat_eq hk, hu, hwp, hn, hm⟩ (h u m)

/-- The two things a `WRITE` can do. -/
theorem exec_write_cases {s t : State} (h : exec .write s = .next t) :
    ((∀ u m, ¬ ReachesMedium s u m) ∧ ∃ b, t = reply [b] s) ∨
    (∃ u m, ReachesMedium s u m ∧ t = reply [storeStatus s] (sectorWritten u m s)) := by
  by_cases hr : ∃ u m, ReachesMedium s u m
  · obtain ⟨u, m, hr⟩ := hr
    rw [exec_write_of_reaches hr] at h
    cases h
    exact .inr ⟨u, m, hr, rfl⟩
  · have hr : ∀ u m, ¬ ReachesMedium s u m := fun u m h => hr ⟨u, m, h⟩
    obtain ⟨b, e⟩ := exec_write_of_refused hr
    rw [e] at h
    cases h
    exact .inl ⟨hr, b, rfl⟩

/-- After a `WRITE` that reached the medium, the unit has the image with the sector replaced. -/
theorem imageOf_sectorWritten {s : State} {u : Nat} {m : Memory}
    (h : Files.wf s.cfg.newImageFill s.files = true) :
    imageOf (sectorWritten u m s) u = some
      (m.writeList s.cfg.newImageFill (Config.SECTOR_BYTES * sectorNumber (requestText s)) (storedBytes s)) :=
  (find_storeSector (s := takeDraw s) h u _ m _ _).trans (if_pos rfl)

theorem wf_sectorWritten {s : State} {u : Nat} {m : Memory} (h : Files.wf s.cfg.newImageFill s.files = true)
    (hr : ReachesMedium s u m) : Files.wf s.cfg.newImageFill (sectorWritten u m s).files = true :=
  Files.wf_put h (Memory.wf_writeList (Files.wf_of_find h hr.image)
    (sector_fits_image hr.inRange (length_storedBytes s)))

theorem exec_write_protected {s : State} {u : Nat} (hsiz : s.f_siz = 130) (hu : targetUnit s = some u)
    (hwp : unitWp s u = true) : exec .write s = .next (reply [0xFD] s) := by
  rw [exec_write_of_size (f_siz_toNat hsiz) hu]
  simp [memWrite, hwp, writeStatus]

/-- Settles O44: such a write is answered before the medium is looked at (`exec_write_protected`). -/
theorem protectionLaw : Obligations.ProtectionLaw := by
  intro s u hsiz hu hwp
  exact ⟨_, exec_write_protected hsiz hu hwp, rfl, pendingText_reply s (by simp), rfl⟩

/-- Settles O41, by the two things a `WRITE` can do: it writes a reply and nothing else, or it stores one sector. A
store is ruled out under each condition of refusal. -/
theorem writeFrame : Obligations.WriteFrame := by
  intro s t hwf hexec
  rcases exec_write_cases hexec with ⟨-, b, rfl⟩ | ⟨u, m, h, rfl⟩
  · refine ⟨rfl, fun _ => rfl, ?_, fun _ _ _ => rfl, fun _ => rfl, fun _ => rfl, fun _ => rfl⟩
    intro _ _ x m m' hm hm' _ _
    cases hm.symm.trans hm'
    rfl
  · refine ⟨rfl, isSome_find_storeSector (s := takeDraw s) hwf h.image _ _, ?outside, ?flag, ?range, ?size,
      ?target⟩
    case outside =>
      intro u' hu' x m₀ m₁ h₀ h₁ a ha
      cases h.target.symm.trans hu'
      exact read_storeSector_outside (s := takeDraw s) hwf h.image h.inRange (length_storedBytes s) h₀ h₁ ha
    case flag =>
      intro u' hu' hwp
      cases h.target.symm.trans hu'
      exact absurd (h.unprotected.symm.trans hwp) (by decide)
    case range => exact fun hn => absurd hn (Nat.not_le.mpr h.inRange)
    case size => exact fun hsiz => absurd h.size hsiz
    case target => exact fun hu => absurd (h.target.symm.trans hu) (by simp)

/-- R205, where the sector exists and its image is present. -/
theorem exec_read_of_image {s : State} {u : Nat} {m : Memory} (hsiz : s.f_siz = 2) (hu : targetUnit s = some u)
    (hn : s.txt[0].toNat + 256 * s.txt[1].toNat < 2560) (hm : imageOf s u = some m) :
    exec .read s = .next (reply
      (0x00 :: m.readList s.cfg.newImageFill (128 * (s.txt[0].toNat + 256 * s.txt[1].toNat)) 128) s) := by
  have hz : s.f_siz.toNat = 2 := f_siz_toNat hsiz
  rw [exec_read, fnRead, withSize_of_eq hz, withUnit_some hu, sectorNumber_requestText hz.ge]
  simp [memRead, Nat.not_le.mpr hn, hm, readReply]

/-- Settles O42: the write leaves the sector with the text's bytes (`imageOf_sectorWritten`), and a read of any image
that agrees with that one on the sector returns them (`readList_congr`, `readList_writeList`). -/
theorem readReturnsWhatWasWritten : Obligations.ReadReturnsWhatWasWritten := by
  intro s u m hwf hsiz hu hwp n hn hm hf
  have hnum : sectorNumber (requestText s) = n := sectorNumber_requestText (by rw [hsiz]; decide)
  have hreach : ReachesMedium s u m := ⟨hsiz, hu, hwp, hnum ▸ hn, hm⟩
  have hdata := storedBytes_of_success hf
  refine ⟨_, _, exec_write_of_reaches hreach, ?_, imageOf_sectorWritten hwf, ?_⟩
  · rw [pendingText_reply _ (by simp), storeStatus_of_success hf]
  · intro r v m₂ hcfg hsiz₂ hv hm₂ h0 h1 hread
    have hback : Memory.readList s.cfg.newImageFill m₂ (128 * n) 128 = storedBytes s := by
      rw [Memory.readList_congr hread, hnum]
      have := Memory.readList_writeList (Files.wf_of_find hwf hm) (sector_fits_image hn (length_storedBytes s))
      rwa [length_storedBytes] at this
    rw [exec_read_of_image hsiz₂ hv (by rwa [h0, h1]) hm₂, h0, h1, hcfg, hback, hdata]

/-- Storing in a sector what the image already holds there leaves the medium as it is. -/
theorem files_storeSector_of_held {s : State} (h : Files.wf s.cfg.newImageFill s.files = true) {u n : Nat} {m : Memory}
    {v : List Byte} (hm : imageOf s u = some m)
    (hv : m.writeList s.cfg.newImageFill (Config.SECTOR_BYTES * n) v = m) :
    (storeSector u n m v s).files = s.files := by
  rw [storeSector_files, hv]
  exact Files.put_of_find h hm

/-- `r` holds the request that `s` holds, for the same drive table. -/
structure SameRequest (s r : State) : Prop where
  cfg : r.cfg = s.cfg
  did : r.f_did = s.f_did
  siz : r.f_siz = s.f_siz
  txt : r.txt = s.txt
  name : r.name = s.name
  wp : r.wp = s.wp

section

variable {s r : State} (h : SameRequest s r)
include h

theorem requestText_of_sameRequest : requestText r = requestText s := by
  simp only [requestText, h.txt, h.siz]

theorem targetUnit_of_sameRequest : targetUnit r = targetUnit s := by
  simp only [targetUnit, h.cfg, h.did]

theorem imageOf_of_sameRequest (hfiles : r.files = s.files) (u : Nat) : imageOf r u = imageOf s u := by
  simp only [imageOf, unitName, h.name, hfiles]

/-- Whether a `WRITE` reaches the medium is decided by the request, the drive table and the images. -/
theorem reaches_of_sameRequest (hfiles : r.files = s.files) {u : Nat} {m : Memory} (hr : ReachesMedium r u m) :
    ReachesMedium s u m where
  size := h.siz ▸ hr.size
  target := targetUnit_of_sameRequest h ▸ hr.target
  unprotected := by simpa only [unitWp, h.wp] using hr.unprotected
  inRange := requestText_of_sameRequest h ▸ hr.inRange
  image := imageOf_of_sameRequest h hfiles u ▸ hr.image

/-- A second successful `WRITE` of a request, on the medium that the first one left, stores what is there already. -/
theorem files_sectorWritten_again (hwf : Files.wf s.cfg.newImageFill s.files = true) {u v : Nat} {m m₁ : Memory}
    (hs : ReachesMedium s u m) (hr : ReachesMedium r v m₁) (hfs : (nextDraw s).fails = false)
    (hfr : (nextDraw r).fails = false) (hfiles : r.files = (sectorWritten u m s).files) :
    (sectorWritten v m₁ r).files = r.files := by
  cases hs.target.symm.trans ((targetUnit_of_sameRequest h).symm.trans hr.target)
  have hbytes : storedBytes r = storedBytes s := by
    rw [storedBytes_of_success hfs, storedBytes_of_success hfr, h.txt]
  have himage : imageOf (sectorWritten u m s) u = some m₁ := by
    rw [← hr.image, imageOf, imageOf, hfiles]
    simp only [unitName, h.name]
    rfl
  rw [imageOf_sectorWritten hwf, Option.some.injEq] at himage
  refine files_storeSector_of_held (s := takeDraw r) ?_ hr.image ?_
  · rw [takeDraw_cfg, takeDraw_files, h.cfg, hfiles]
    exact wf_sectorWritten hwf hs
  · rw [takeDraw_cfg, h.cfg, requestText_of_sameRequest h, hbytes, ← himage]
    exact Memory.writeList_writeList (Files.wf_of_find hwf hs.image)
      (sector_fits_image hs.inRange (length_storedBytes s))

end

/-- A `WRITE` leaves its own request and the drive table. -/
theorem sameRequest_of_write {s t : State} (h : exec .write s = .next t) : SameRequest s t := by
  rcases exec_write_cases h with ⟨-, b, rfl⟩ | ⟨u, m, -, rfl⟩ <;> exact ⟨rfl, rfl, rfl, rfl, rfl, rfl⟩

/-- Settles O43: the second write reaches the medium only if the first did, and then stores bytes that the sector
already holds (`files_sectorWritten_again`). -/
theorem writeIsIdempotent : Obligations.WriteIsIdempotent := by
  intro s t w _ env drawn hwf _ _ hf hexec r hf' hexec'
  have ht := sameRequest_of_write hexec
  have hsame : SameRequest s r := ⟨ht.cfg, ht.did, ht.siz, ht.txt, ht.name, ht.wp⟩
  rcases exec_write_cases hexec' with ⟨-, b, hw⟩ | ⟨u', m', h', hw⟩
  · rw [hw, reply_files]
  rcases exec_write_cases hexec with ⟨hrefused, b, ht⟩ | ⟨u, m, h, ht⟩
  · have hfiles : r.files = s.files := (congrArg State.files ht :)
    exact absurd (reaches_of_sameRequest hsame hfiles h') (hrefused u' m')
  · have hfiles : r.files = (sectorWritten u m s).files := (congrArg State.files ht :)
    rw [hw, reply_files]
    exact files_sectorWritten_again hsame hwf h h' hf hf' hfiles

/-- The functions that change the medium (R206, R233). -/
theorem files_of_effect {s t : State} (h : Effect s t) (hne : t.files ≠ s.files) :
    (s.f_fnc = 0x78 ∧ s.f_siz = 130) ∨ (s.f_fnc = 0xE0 ∧ s.f_siz = 1 ∧ s.txt[0] = s.cfg.imgCreate) := by
  cases h
  case write hfnc hsiz _ _ _ _ _ => exact .inl ⟨hfnc, hsiz⟩
  case imgCreate hfnc hsiz hsub _ _ => exact .inr ⟨hfnc, hsiz, hsub⟩
  all_goals exact absurd rfl hne

/-- The function that changes the listing (R75, R233). -/
theorem listing_of_effect {s t : State} (h : Effect s t) (hne : t.listing ≠ s.listing) :
    s.f_fnc = 0xE0 ∧ s.f_siz = 1 ∧ s.txt[0] = s.cfg.imgCreate := by
  cases h
  case imgCreate hfnc hsiz hsub _ _ => exact ⟨hfnc, hsiz, hsub⟩
  all_goals exact absurd rfl hne

/-- Settles O58, by what can reach the drive (`drive_of_step`) and which functions change the medium or the listing;
each of these has a text. -/
theorem mediumChangesOnlyBy : Obligations.MediumChangesOnlyBy := by
  intro s t hstep
  rcases drive_of_step hstep with h | ⟨rest, -, rfl⟩ | ⟨rest, u, -, -, rfl⟩ | ⟨rest, d, hrx, hst, hd, rfl⟩
  · exact ⟨(absurd h.files ·), (absurd h.listing ·)⟩
  · exact ⟨(absurd rfl ·), (absurd rfl ·)⟩
  · exact ⟨(absurd rfl ·), (absurd rfl ·)⟩
  · refine ⟨fun hne => ⟨⟨rest, hrx⟩, ?files⟩, fun hne => ⟨⟨rest, hrx⟩, ?listing⟩⟩
    case files =>
      have hcause := files_of_effect hd hne
      refine ⟨txtCks_of_f_siz_ne hst fun hsiz => ?_, hcause⟩
      rcases hcause with ⟨-, h⟩ | ⟨-, h, -⟩ <;> exact absurd (hsiz.symm.trans h) (by decide)
    case listing =>
      obtain ⟨hfnc, hsiz, hsub⟩ := listing_of_effect hd hne
      exact ⟨txtCks_of_f_siz_ne hst (by rw [show s.f_siz = 1 from hsiz]; decide), hfnc, hsiz, hsub⟩

end Sys2Proof.Machine
end

section
/-! PROOFS. The decoder and the encoder are inverse to each other (R91 to R94, R105, R106, R108): one way by
instruction, from the lemmas of Laws/PerInstr, the other way by the shape of what each part of the decoder accepts. -/

namespace Sys2Proof.Laws.DecodeEncode

/-! ## Encoded, then decoded -/

theorem decode_encode : ∀ i : Instr, Statement i
  | .soh => soh
  | .stx => stx
  | .etx => etx
  | .eot => eot
  | .enq => enq
  | .ack => ack
  | .nak => nak
  | .sel => sel
  | .selF did sid => selF did sid
  | .hdr did sid fnc siz cks => hdr did sid fnc siz cks
  | .rhdr did sid fnc siz cks => rhdr did sid fnc siz cks
  | .txt body cks => txt body cks
  | .reset => reset
  | .select => select
  | .read => read
  | .write => write
  | .flush => flush
  | .img => img
  | .imgDir => imgDir
  | .imgMount => imgMount
  | .imgCreate => imgCreate
  | .imgProtect => imgProtect
  | .imgDefaults => imgDefaults

/-- Settles O2: a one-byte row is found again by its code, the sub-operations because their codes are distinct; a frame
is told by its first byte, a header by its format byte, and a body is cut off by its announced size. -/
theorem decodeOfEncode : Obligations.DecodeOfEncode := fun p i rest hp hi => decode_encode i p rest hp hi

/-! ## Decoded, then encoded -/

theorem mem_ctlRows {b : Byte} {i : Instr} (h : decodeCtl b = .ok i) : (b, i) ∈ ctlRows := by
  unfold decodeCtl at h
  split at h
  · next hi =>
    cases h
    exact Machine.mem_of_lookup hi
  · cases h

theorem encode_of_mem_ctlRows (p : Params) {b : Byte} {i : Instr} (h : (b, i) ∈ ctlRows) :
    i.level = .ctl ∧ encode p i = [b] := by
  simp only [ctlRows, List.mem_cons, Prod.mk.injEq, List.not_mem_nil, or_false] at h
  rcases h with ⟨rfl, rfl⟩ | ⟨rfl, rfl⟩ | ⟨rfl, rfl⟩ | ⟨rfl, rfl⟩ | ⟨rfl, rfl⟩ | ⟨rfl, rfl⟩ | ⟨rfl, rfl⟩ | ⟨rfl, rfl⟩ <;>
    exact ⟨rfl, rfl⟩

theorem encode_of_mem_fncRows (p : Params) {b : Byte} {i : Instr} (h : (b, i) ∈ fncRows) :
    i.level = .fnc ∧ encode p i = [b] := by
  simp only [fncRows, List.mem_cons, Prod.mk.injEq, List.not_mem_nil, or_false] at h
  rcases h with ⟨rfl, rfl⟩ | ⟨rfl, rfl⟩ | ⟨rfl, rfl⟩ | ⟨rfl, rfl⟩ | ⟨rfl, rfl⟩ | ⟨rfl, rfl⟩ <;> exact ⟨rfl, rfl⟩

theorem encode_of_mem_imgRows {p : Params} {b : Byte} {i : Instr} (h : (b, i) ∈ imgRows p) :
    i.level = .img ∧ encode p i = [b] := by
  simp only [imgRows, List.mem_cons, Prod.mk.injEq, List.not_mem_nil, or_false] at h
  rcases h with ⟨rfl, rfl⟩ | ⟨rfl, rfl⟩ | ⟨rfl, rfl⟩ | ⟨rfl, rfl⟩ | ⟨rfl, rfl⟩ <;> exact ⟨rfl, rfl⟩

/-- What is decoded from one byte leaves the bytes after it. -/
theorem encode_of_code {p : Params} {lvl : Level} {b : Byte} {tail rest : List Byte} {i : Instr}
    {code : Except DecodeError Instr} (hcode : code = .ok i → i.level = lvl ∧ encode p i = [b])
    (h : code.map (·, tail) = .ok (i, rest)) : i.level = lvl ∧ encode p i ++ rest = b :: tail := by
  cases code with
  | error e => cases h
  | ok j =>
    cases h
    obtain ⟨hlvl, henc⟩ := hcode rfl
    exact ⟨hlvl, by rw [henc, List.singleton_append]⟩

theorem encode_of_decodeSelect (p : Params) {bytes rest : List Byte} {i : Instr}
    (h : decodeSelect bytes = .ok (i, rest)) : i.level = .frame ∧ encode p i ++ rest = Config.SEL :: bytes := by
  unfold decodeSelect at h
  split at h
  · split at h
    · next henq =>
      cases h
      exact ⟨rfl, by simp [encode, henq]⟩
    · cases h
  · cases h

theorem encode_of_decodeHeader (p : Params) {bytes rest : List Byte} {i : Instr}
    (h : decodeHeader bytes = .ok (i, rest)) : i.level = .frame ∧ encode p i ++ rest = Config.SOH :: bytes := by
  unfold decodeHeader at h
  split at h
  · split at h
    · next hfmt =>
      cases h
      exact ⟨rfl, by simp [encode, hfmt]⟩
    · split at h
      · next hfmt =>
        cases h
        exact ⟨rfl, by simp [encode, hfmt]⟩
      · cases h
  · cases h

theorem encode_of_decodeText (p : Params) {size : Nat} {bytes rest : List Byte} {i : Instr}
    (h : decodeText size bytes = .ok (i, rest)) : i.level = .frame ∧ encode p i ++ rest = Config.STX :: bytes := by
  unfold decodeText at h
  split at h
  · cases h
  · split at h
    · next etx cks tail hdrop =>
      split at h
      · next hetx =>
        cases h
        have hbytes : bytes.take size ++ Config.ETX :: cks :: rest = bytes := by
          rw [← hetx, ← hdrop, List.take_append_drop]
        exact ⟨rfl, by simpa [encode] using hbytes⟩
      · cases h
    · cases h

theorem encode_of_decodeFrame (p : Params) {size : Nat} {bytes rest : List Byte} {i : Instr}
    (h : decodeFrame size bytes = .ok (i, rest)) : i.level = .frame ∧ encode p i ++ rest = bytes := by
  cases bytes with
  | nil => cases h
  | cons b tail =>
    rw [decodeFrame] at h
    split at h
    · next hb => exact hb ▸ encode_of_decodeSelect p h
    · split at h
      · next hb => exact hb ▸ encode_of_decodeHeader p h
      · split at h
        · next hb => exact hb ▸ encode_of_decodeText p h
        · cases h

/-- Settles O3, level by level: a one-byte code stands in its table beside the instruction that encodes to it, and the
three frame decoders accept only the delimiters that the encoder writes. -/
theorem encodeOfDecode : Obligations.EncodeOfDecode := by
  intro p lvl size bytes rest i h
  match lvl, bytes, h with
  | .ctl, _ :: _, h => exact encode_of_code (fun hi => encode_of_mem_ctlRows p (mem_ctlRows hi)) h
  | .frame, _, h => exact encode_of_decodeFrame p h
  | .fnc, _ :: _, h => exact encode_of_code (fun hi => encode_of_mem_fncRows p (Machine.mem_fncRows hi)) h
  | .img, _ :: _, h => exact encode_of_code (fun hi => encode_of_mem_imgRows (Machine.mem_imgRows hi)) h

/-! ## The words of the table -/

/-- Settles O1: the eleven words are fixed, and the decoder computes. -/
theorem decodedWordsOfTheTable : Obligations.DecodedWordsOfTheTable := by
  unfold Obligations.DecodedWordsOfTheTable
  decide

end Sys2Proof.Laws.DecodeEncode
end

section
/-! PROOFS. Whole frames received (R92 to R94, R151 to R165) and the reply header (R102, R166): the rule that the last
byte of a frame takes, once what the bytes before it left is known. -/

namespace Sys2Proof.Machine

/-! ## The last byte of a header, of a text and of a select frame -/

theorem acknowledgeRequest_dispatch (s : State) :
    acknowledgeRequest (dispatch s) = { dispatch s with tx := s.tx ++ [Config.ACK], st := .ackWait } := by
  rw [acknowledgeRequest, send, dispatch_tx]

theorem checksumMatches_iff {s : State} {b : Byte} : checksumMatches s b = true ↔ b = s.cks := beq_iff_eq

/-- R161 with a text to follow. -/
theorem receive_announces {s : State} {b : Byte} (hst : s.st = .hdrCks) (hb : b = s.cks) (hsiz : s.f_siz ≠ 0) :
    receive b s = { s with lat_cks := b, tx := s.tx ++ [Config.ACK], cks := 0, cnt := 0, st := .txtStx } := by
  rw [receive_hdrCks b hst, rxHdrCks, if_pos (checksumMatches_iff.mpr hb), if_neg hsiz]
  rfl

/-- R161 without one, R165. -/
theorem receive_requests {s : State} {b : Byte} (hst : (s.st = .hdrCks ∧ s.f_siz = 0) ∨ s.st = .txtCks)
    (hb : b = s.cks) :
    receive b s = { dispatch (noteChecksum b s) with tx := s.tx ++ [Config.ACK], st := .ackWait } := by
  have hmatch := checksumMatches_iff.mpr hb
  refine Eq.trans ?_ (acknowledgeRequest_dispatch (noteChecksum b s))
  rcases hst with ⟨hst, hsiz⟩ | hst
  · rw [receive_hdrCks b hst, rxHdrCks, if_pos hmatch, if_pos hsiz]
  · rw [receive_txtCks b hst, rxTxtCks, if_pos hmatch]

/-- R252, R253. -/
theorem receive_refuses {s : State} {b : Byte} (hst : s.st = .hdrCks ∨ s.st = .txtCks) (hb : b ≠ s.cks) :
    receive b s = enterError s.st (send [Config.NAK] (noteChecksum b s)) := by
  have hmatch := mt checksumMatches_iff.mp hb
  rcases hst with hst | hst
  · rw [receive_hdrCks b hst, rxHdrCks, if_neg hmatch, headerChecksumFailure_eq hst]
  · rw [receive_txtCks b hst, rxTxtCks, if_neg hmatch, textChecksumFailure_eq hst]

/-- R154 for a unit of this device. -/
theorem rxSelEnq_own {s : State} {u : Nat} (hu : targetUnit s = some u) :
    rxSelEnq Config.ENQ s = { send [Config.ACK] (selectUnit u s) with st := .hdrSoh } := by
  rw [rxSelEnq, if_pos rfl, hu]

/-- R154 for any other id. -/
theorem rxSelEnq_other {s : State} (hu : targetUnit s = none) :
    rxSelEnq Config.ENQ s = { clearFrame s with st := .idle } := by
  rw [rxSelEnq, if_pos rfl, hu]

/-! ## Frames -/

/-- Settles O22: the six bytes before the checksum byte leave `headerReceived` (`exec_hdr`), and the rule of
`S_HDR_CKS` has the three cases. -/
theorem headerFrameReceived : Obligations.HeaderFrameReceived := by
  intro s did sid fnc siz c hst h
  rw [exec_hdr hst]
  refine ⟨fun hc hsiz => ?announces, fun hc hsiz => ⟨_, rfl, ?requests⟩, fun hc => ?refuses⟩
  case announces => exact congrArg _ (receive_announces rfl hc hsiz)
  case requests => exact congrArg _ (receive_requests (.inl ⟨rfl, hsiz⟩) hc)
  case refuses => exact congrArg _ (receive_refuses (.inl rfl) hc)

/-- Settles O23: the bytes before the checksum byte store and sum exactly the body (`exec_txt`), and the rule of
`S_TXT_CKS` dispatches or refuses. -/
theorem textFrameReceived : Obligations.TextFrameReceived := by
  intro s body c hst hlen hpos
  obtain ⟨t, ht, hbody, hexec⟩ := exec_txt (c := c) hst hlen hpos
  have hst' : t.st = .txtCks := by rw [ht]
  have hcks : t.cks = textCks body := by rw [ht]
  have htx : t.tx = s.tx := by rw [ht]
  refine ⟨noteChecksum c t, hbody, ?state, fun hc => ?requests, fun hc => ?refuses⟩
  case state =>
    rw [ht]
    rfl
  case requests => rw [hexec, receive_requests (.inr hst') (hc.trans hcks.symm), htx]
  case refuses =>
    rw [hexec, receive_refuses (.inr hst') (hcks.symm ▸ hc), hst', ← htx]
    rfl

/-- The state before the enquiry of a select frame. -/
def selectReceived (did sid : Byte) (s : State) : State :=
  { clearFrame s with st := .selEnq, f_did := did, f_sid := sid, lat_did := did, lat_sid := sid }

theorem receive_sel_start {s : State} (h : s.st = .idle ∨ s.st = .error) :
    receive Config.SEL s = { clearFrame s with st := .selDid } := by
  rcases h with h | h
  · rw [receive_idle _ h, rxIdle, startFrame_sel]
  · rw [receive_error _ h, rxError, startFrame_sel]

theorem exec_selF {s : State} (h : s.st = .idle ∨ s.st = .error) (did sid : Byte) :
    exec (.selF did sid) s = .next (rxSelEnq Config.ENQ (selectReceived did sid s)) := by
  show Host.Outcome.next (receiveAll [did, sid, Config.ENQ] (receive Config.SEL s)) = _
  rw [receive_sel_start h]
  rfl

/-- Settles O21: the three bytes before the enquiry leave `selectReceived` (`exec_selF`), and the enquiry has a case for
a unit's id and one for any other. -/
theorem selectFrameReceived : Obligations.SelectFrameReceived := by
  intro s did sid hst
  rw [exec_selF hst]
  exact ⟨fun u hu => congrArg _ (rxSelEnq_own hu), fun hu => congrArg _ (rxSelEnq_other hu)⟩

/-! ## The reply header -/

/-- R169: bytes that are no start characters are discarded in `S_ERROR`. -/
theorem receiveAll_error {s : State} (hst : s.st = .error) {l : List Byte} (hl : ∀ b ∈ l, b ≠ 0x01 ∧ b ≠ 0x31) :
    receiveAll l s = s := by
  induction l with
  | nil => rfl
  | cons b l ih =>
    obtain ⟨⟨hsoh, hsel⟩, hl⟩ := List.forall_mem_cons.mp hl
    rw [receiveAll_cons, receive_error b hst, rxError, startFrame_other s hsoh hsel]
    exact ih hl

/-- R156: a reply header's format byte, where a header may start. -/
theorem receive_replyFormat {s : State} (hst : s.st = .idle ∨ s.st = .error ∨ s.st = .hdrSoh) :
    receive Config.FMT_SM (receive Config.SOH s) = enterError .hdrFmt s := by
  rw [receive_soh_start hst]
  rfl

/-- Settles O24: in `S_ACK_WAIT` the pending header is sent; as received bytes the second one is the violation, and the
other five meet `S_ERROR` (`receiveAll_error`). -/
theorem replyHeaderFrame : Obligations.ReplyHeaderFrame := by
  refine ⟨fun s hst => ?sent, fun s did sid fnc siz c hst hbytes => ?received⟩
  case sent => exact if_pos ⟨hst, rfl⟩
  case received =>
    have hnot : s.st ≠ .ackWait := by rcases hst with h | h | h <;> simp [h]
    calc exec (.rhdr did sid fnc siz c) s
      _ = .next (receiveAll (encode s.cfg (.rhdr did sid fnc siz c)) s) := if_neg fun h => hnot h.1
      _ = .next (receiveAll [did, sid, fnc, siz, c] (receive Config.FMT_SM (receive Config.SOH s))) := rfl
      _ = .next (enterError .hdrFmt s) := by rw [receive_replyFormat hst, receiveAll_error rfl hbytes]

/-! ## `NAK` -/

/-- R251 for `NAK`, which is none of the bytes that a state awaits. -/
theorem receive_nak_violation {s : State} (h : awaitsFixedByte s.st) :
    receive Config.NAK s = framingViolation s := by
  rcases h with h | h | h | h | h | h | h | h | h
  · exact receive_idle _ h
  · exact receive_selEnq _ h
  · exact receive_hdrSoh _ h
  · exact receive_hdrFmt _ h
  · exact receive_txtStx _ h
  · exact receive_txtEtx _ h
  · exact receive_ackWait _ h
  · exact receive_replyHeaderSent _ h
  · exact receive_replyTextSent _ h

/-- Settles O20, by the state: a field or body state takes `NAK` as its byte, the two checksum states compare it,
`S_ERROR` discards it, and in the nine others it is the violation of `receive_nak_violation`. -/
theorem nakIsNeverAcceptedAsSuch : Obligations.NakIsNeverAcceptedAsSuch := by
  intro s failed
  split
  · next hst => exact congrArg _ (receive_selDid _ hst)
  · next hst => exact congrArg _ (receive_selSid _ hst)
  · next hst => exact congrArg _ (receive_hdrDid _ hst)
  · next hst => exact congrArg _ (receive_hdrSid _ hst)
  · next hst => exact congrArg _ (receive_hdrFnc _ hst)
  · next hst => exact congrArg _ (receive_hdrSiz _ hst)
  · next hst =>
    exact ⟨fun hcks => congrArg _ (receive_refuses (.inl hst) hcks.symm),
      fun hcks hsiz => congrArg _ (receive_announces hst hcks.symm hsiz),
      fun hcks hsiz => congrArg _ (receive_requests (.inl ⟨hst, hsiz⟩) hcks.symm)⟩
  · next hst => exact congrArg _ (receive_txtBody _ hst)
  · next hst =>
    exact ⟨fun hcks => congrArg _ (receive_refuses (.inr hst) hcks.symm),
      fun hcks => congrArg _ (receive_requests (.inr hst) hcks.symm)⟩
  · next hst => exact congrArg _ (receive_error _ hst)
  all_goals
    next hst => exact congrArg _ (receive_nak_violation (by simp [awaitsFixedByte, hst]))

end Sys2Proof.Machine
end

section
/-! PROOFS. The checksums (R131 to R136): the running sum reaches them, and changing one summed byte changes them. -/

namespace Sys2Proof.Machine

/-! ## The running sum -/

/-- R134: adding byte by byte from 0 sums the bytes. -/
theorem foldl_accumulate (l : List Byte) : l.foldl accumulate 0 = sum8 l := by
  induction l using List.reverseRecOn with
  | nil => rfl
  | append_singleton l b ih => rw [List.foldl_append, List.foldl_cons, List.foldl_nil, accumulate_eq_sum8 ih]

theorem toNat_sum8 (l : List Byte) : (sum8 l).toNat = (l.map BitVec.toNat).sum % 256 := BitVec.toNat_ofNat _ _

/-- Settles O4: both checksums are `sum8` of the bytes they cover, which the running sum reaches
(`foldl_accumulate`). -/
theorem runningSumIsTheChecksum : Obligations.RunningSumIsTheChecksum := by
  refine ⟨fun _ _ _ _ _ => foldl_accumulate _, foldl_accumulate, fun fmt did sid fnc siz => ?header, toNat_sum8⟩
  case header =>
    rw [headerCks, toNat_sum8]
    simp [Nat.add_assoc]

/-! ## One corrupted byte -/

/-- R136: sums that differ in one summed byte only are equal only if that byte is. -/
theorem sum8_replace_inj {l r : List Byte} {b b' : Byte} :
    sum8 (l ++ [b] ++ r) = sum8 (l ++ [b'] ++ r) ↔ b = b' := by
  simp only [sum8_append, sum8_singleton, BitVec.add_left_inj, BitVec.add_right_inj]

theorem flipBit_ne (b : Byte) {k : Nat} (hk : k < 8) : b ^^^ BitVec.twoPow 8 k ≠ b := by
  intro h
  have hbit : (b ^^^ BitVec.twoPow 8 k).getLsbD k = b.getLsbD k := by rw [h]
  simp [hk] at hbit

theorem sum8_flipBit_ne (l r : List Byte) (b : Byte) {k : Nat} (hk : k < 8) :
    sum8 (l ++ [b ^^^ BitVec.twoPow 8 k] ++ r) ≠ sum8 (l ++ [b] ++ r) :=
  mt sum8_replace_inj.mp (flipBit_ne b hk)

/-- Settles O6: the text checksum is the sum of the body, and a flipped bit changes the byte (`sum8_flipBit_ne`). -/
theorem corruptedTextChangesTheSum : Obligations.CorruptedTextChangesTheSum :=
  fun l r b _ hk => sum8_flipBit_ne l r b hk

/-- Settles O5: a flipped field bit changes the sum, a flipped bit of the checksum byte changes that byte, so in each
case the two differ, and the header is refused as `headerFrameReceived` says. -/
theorem corruptedHeaderIsRefused : Obligations.CorruptedHeaderIsRefused := by
  intro s did sid fnc siz k hk hst flip c i hi
  obtain ⟨did', sid', fnc', siz', c', rfl, hne⟩ : ∃ did' sid' fnc' siz' c',
      i = .hdr did' sid' fnc' siz' c' ∧ c' ≠ headerCks 0x00 did' sid' fnc' siz' := by
    simp only [List.mem_cons, List.not_mem_nil, or_false] at hi
    rcases hi with hi | hi | hi | hi | hi <;> refine ⟨_, _, _, _, _, hi, ?_⟩
    · exact (sum8_flipBit_ne [0x00] [sid, fnc, siz] did hk).symm
    · exact (sum8_flipBit_ne [0x00, did] [fnc, siz] sid hk).symm
    · exact (sum8_flipBit_ne [0x00, did, sid] [siz] fnc hk).symm
    · exact (sum8_flipBit_ne [0x00, did, sid, fnc] [] siz hk).symm
    · exact flipBit_ne c hk
  obtain ⟨-, -, hrefused⟩ := headerFrameReceived s did' sid' fnc' siz' c' (hst.imp_right .inl)
  exact ⟨_, hrefused hne, rfl, rfl, rfl, rfl, rfl, rfl, rfl, rfl, rfl, rfl⟩

end Sys2Proof.Machine
end

section
/-! PROOFS. The rule of each state as a step (R150 to R170): which bytes a state rejects, what each accepted byte does,
and that every step and every instruction has a next state. -/

namespace Sys2Proof.Machine

/-! ## One byte, one step -/

/-- R175: the step over a byte is what receiving it does to the rest of the state. -/
theorem step_of_receive {s t : State} {b : Byte} {rest : List Event} (hrx : s.rx = .rxByte b :: rest)
    (h : receive b s = t) : step s = .next (withRx rest t) := by
  rw [step_rxByte hrx, receive_withRx, h]

/-- `b` is none of the bytes that the state accepts (R150, R251). -/
def rejects (b : Byte) : St → Prop
  | .idle => b ≠ 0x01 ∧ b ≠ 0x31
  | .selEnq => b ≠ 0x05
  | .hdrSoh => b ≠ 0x01
  | .hdrFmt => b ≠ 0x00
  | .txtStx => b ≠ 0x02
  | .txtEtx => b ≠ 0x03
  | .ackWait => b ≠ 0x04
  | .replyHeaderSent => b ≠ 0x06
  | .replyTextSent => b ≠ 0x06
  | _ => False

/-- R251: a rejected byte is a framing violation. -/
theorem receive_of_rejects {b : Byte} {s : State} {st : St} (hst : s.st = st) (h : rejects b st) :
    receive b s = framingViolation s := by
  cases st
  case idle => rw [receive_idle b hst, rxIdle, startFrame_other s h.1 h.2]
  case selEnq => exact (receive_selEnq b hst).trans (if_neg h)
  case hdrSoh => exact (receive_hdrSoh b hst).trans (if_neg h)
  case hdrFmt => exact (receive_hdrFmt b hst).trans (if_neg h)
  case txtStx => exact (receive_txtStx b hst).trans (if_neg h)
  case txtEtx => exact (receive_txtEtx b hst).trans (if_neg h)
  case ackWait => exact (receive_ackWait b hst).trans (if_neg h)
  case replyHeaderSent => exact (receive_replyHeaderSent b hst).trans (if_neg h)
  case replyTextSent => exact (receive_replyTextSent b hst).trans (if_neg h)
  all_goals exact h.elim

theorem step_of_rejects {b : Byte} {s : State} {st : St} {rest : List Event} (hrx : s.rx = .rxByte b :: rest)
    (hst : s.st = st) (h : rejects b st) : step s = .next (framingViolation { s with rx := rest }) :=
  step_of_receive hrx (receive_of_rejects hst h)

/-- R169: a byte that is no start character is discarded in `S_ERROR`. -/
theorem receive_discarded {b : Byte} {s : State} (hst : s.st = .error) (hsoh : b ≠ 0x01) (hsel : b ≠ 0x31) :
    receive b s = s := by
  rw [receive_error b hst, rxError, startFrame_other s hsoh hsel]

/-! ## Start characters and the enquiry -/

/-- Settles O13: the two start characters clear the frame (`receive_soh_start`, `receive_sel_start`); any other byte is
rejected, or discarded in `S_ERROR`. -/
theorem startCharacters : Obligations.StartCharacters := by
  intro s clear
  refine ⟨fun hst => congrArg _ (receive_soh_start hst), fun hst => congrArg _ (receive_sel_start hst),
    fun b rest hrx hsoh => ⟨?rejected, fun hst hsel => step_of_receive hrx (receive_discarded hst hsoh hsel)⟩⟩
  case rejected =>
    rintro (⟨hst, hsel⟩ | hst)
    · exact step_of_rejects hrx hst ⟨hsoh, hsel⟩
    · exact step_of_rejects hrx hst hsoh

/-- Settles O14: the first index of the id is the unit that `UnitIndex` finds (`unitIndex_eq_some`), an id of no unit
gives none, and every byte but `ENQ` is rejected. -/
theorem enquiryCompletesSelect : Obligations.EnquiryCompletesSelect := by
  intro s hst
  have henq : exec .enq s = .next (rxSelEnq Config.ENQ s) := congrArg _ (receive_selEnq _ hst)
  refine ⟨fun u hu hfirst => ?own, fun hid => ?other, fun b rest hrx hb => step_of_rejects hrx hst hb⟩
  case own =>
    rw [henq, rxSelEnq_own (unitIndex_eq_some hu hfirst)]
    rfl
  case other =>
    rw [henq, rxSelEnq_other (targetUnit_eq_none hid)]
    rfl

/-! ## Headers and texts -/

/-- Settles O15: each field state has one rule for all bytes, and `S_HDR_FMT` accepts 0x00 only. -/
theorem headerFieldRules : Obligations.HeaderFieldRules := by
  intro s b rest hrx
  exact ⟨fun hst => step_of_receive hrx (receive_selDid b hst),
    fun hst => step_of_receive hrx (receive_selSid b hst),
    fun hst hb => step_of_receive hrx ((receive_hdrFmt b hst).trans (if_pos hb)),
    fun hst hb => step_of_rejects hrx hst hb,
    fun hst => step_of_receive hrx (receive_hdrDid b hst),
    fun hst => step_of_receive hrx (receive_hdrSid b hst),
    fun hst => step_of_receive hrx (receive_hdrFnc b hst),
    fun hst => step_of_receive hrx (receive_hdrSiz b hst)⟩

/-- Settles O16: `receive_announces`, whose only conditions are the sum and the size. -/
theorem headerAnnouncesText : Obligations.HeaderAnnouncesText :=
  fun _ _ hrx hst hsiz => step_of_receive hrx (receive_announces hst rfl hsiz)

/-- Settles O17: one accepted byte in each of the two states, every other one rejected. -/
theorem textDelimiters : Obligations.TextDelimiters := by
  intro s
  refine ⟨fun hst => congrArg _ (receive_txtStx _ hst), fun hst => congrArg _ (receive_txtEtx _ hst),
    fun b rest hrx => ?_⟩
  rintro (⟨hst, hb⟩ | ⟨hst, hb⟩)
  · exact step_of_rejects hrx hst hb
  · exact step_of_rejects hrx hst hb

/-- R163: a body byte is stored at `cnt` and nowhere else. -/
theorem getElem_txt_rxTxtBody (b : Byte) (s : State) (i : Fin 255) :
    (rxTxtBody b s).txt[i] = if i.val = s.cnt.toNat then b else s.txt[i] := by
  simp only [rxTxtBody, Fin.getElem_fin, Vector.getElem_setIfInBounds, eq_comm]

theorem rxTxtBody_st {s : State} (b : Byte) (h : s.cnt.toNat < s.f_siz.toNat) :
    (rxTxtBody b s).st = if s.cnt.toNat + 1 = s.f_siz.toNat then .txtEtx else .txtBody :=
  if_congr (cnt_succ_eq_iff h) rfl rfl

/-- Settles O18: the rule of `S_TXT_BODY`; below the announced size the count does not wrap. -/
theorem textBodyIsCounted : Obligations.TextBodyIsCounted := by
  intro s b rest hrx hst hlt
  exact ⟨_, step_of_receive hrx (receive_txtBody b hst), rfl, toNat_cnt_succ hlt, getElem_txt_rxTxtBody b s,
    rxTxtBody_st b hlt⟩

/-! ## The reply -/

/-- Settles O19: one accepted byte in each of the three states, every other one rejected. -/
theorem replySequence : Obligations.ReplySequence := by
  intro s
  refine ⟨fun hst => congrArg _ (receive_ackWait _ hst), fun hst => ?text,
    fun hst => congrArg _ (receive_replyTextSent _ hst), fun b rest hrx => ?rejected⟩
  case text =>
    show Host.Outcome.next (receive Config.ACK s) = _
    rw [receive_replyHeaderSent _ hst]
    simp [rxReplyHeaderSent, send, encodeText, pendingText]
  case rejected =>
    rintro (⟨hst, hb⟩ | ⟨hst, hb⟩ | ⟨hst, hb⟩)
    · exact step_of_rejects hrx hst hb
    · exact step_of_rejects hrx hst hb
    · exact step_of_rejects hrx hst hb

/-! ## The whole table -/

/-- `t` is in state `st`, and `sent` was sent since `s`: an entry of R150. -/
def Goes (s : State) (st : St) (sent : List Byte) (t : State) : Prop := t.st = st ∧ t.tx = s.tx ++ sent

/-- `t` is in `S_ERROR` by a violation raised in `s` (R251). -/
def Violated (s t : State) : Prop := Goes s .error [] t ∧ t.err_prev = s.st

theorem goes_of_receive {b : Byte} {s u : State} {rest : List Event} {st : St} {sent : List Byte}
    (h : receive b s = u) (hst : u.st = st) (htx : s.tx ++ sent = u.tx) :
    Goes s st sent (withRx rest (receive b s)) := by
  rw [h]
  exact ⟨hst, htx.symm⟩

theorem violated_of_rejects {b : Byte} {s : State} {rest : List Event} {st : St} (hst : s.st = st)
    (h : rejects b st) : Violated s (withRx rest (receive b s)) := by
  rw [receive_of_rejects hst h]
  exact ⟨⟨rfl, (List.append_nil _).symm⟩, rfl⟩

/-- The entry of a state that accepts one byte only. -/
theorem goes_of_fixedByte {b c : Byte} {s u : State} {rest : List Event} {st : St} {sent : List Byte}
    (h : receive b s = if b = c then u else framingViolation s) (hst : u.st = st) (htx : s.tx ++ sent = u.tx) :
    if b = c then Goes s st sent (withRx rest (receive b s)) else Violated s (withRx rest (receive b s)) := by
  rw [h]
  split
  · exact ⟨hst, htx.symm⟩
  · exact ⟨⟨rfl, (List.append_nil _).symm⟩, rfl⟩

/-- Settles O10, row by row: a byte the row lists takes the rule of the state, and the rows that list particular bytes
reject the others (`violated_of_rejects`, `goes_of_fixedByte`). -/
theorem transitionTable : Obligations.TransitionTable := by
  intro s b rest hrx
  refine ⟨_, step_of_receive hrx rfl, rfl, ?_⟩
  intro goes violation
  split
  · next hst =>
    split_ifs with hsel hsoh
    · subst hsel
      exact goes_of_receive (receive_sel_start (.inl hst)) rfl (List.append_nil _)
    · subst hsoh
      exact goes_of_receive (receive_soh_start (.inl hst)) rfl (List.append_nil _)
    · exact violated_of_rejects hst ⟨hsoh, hsel⟩
  · next hst => exact goes_of_receive (receive_selDid b hst) rfl (List.append_nil _)
  · next hst => exact goes_of_receive (receive_selSid b hst) rfl (List.append_nil _)
  · next hst =>
    split_ifs with henq hid
    · subst henq
      obtain ⟨u, hu⟩ := targetUnit_isSome_iff.mpr hid
      exact goes_of_receive ((receive_selEnq _ hst).trans (rxSelEnq_own hu)) rfl rfl
    · subst henq
      have hother := rxSelEnq_other (targetUnit_eq_none hid)
      exact goes_of_receive ((receive_selEnq _ hst).trans hother) rfl (List.append_nil _)
    · exact violated_of_rejects hst henq
  · next hst => exact goes_of_fixedByte (receive_hdrSoh b hst) rfl (List.append_nil _)
  · next hst => exact goes_of_fixedByte (receive_hdrFmt b hst) rfl (List.append_nil _)
  · next hst => exact goes_of_receive (receive_hdrDid b hst) rfl (List.append_nil _)
  · next hst => exact goes_of_receive (receive_hdrSid b hst) rfl (List.append_nil _)
  · next hst => exact goes_of_receive (receive_hdrFnc b hst) rfl (List.append_nil _)
  · next hst => exact goes_of_receive (receive_hdrSiz b hst) rfl (List.append_nil _)
  · next hst =>
    split_ifs with hcks hsiz
    · exact goes_of_receive (receive_requests (.inl ⟨hst, hsiz⟩) hcks) rfl rfl
    · exact goes_of_receive (receive_announces hst hcks hsiz) rfl rfl
    · exact goes_of_receive (receive_refuses (.inl hst) hcks) rfl rfl
  · next hst => exact goes_of_fixedByte (receive_txtStx b hst) rfl (List.append_nil _)
  · next hst =>
    split_ifs with hlast
    · exact goes_of_receive (receive_txtBody b hst) (rxTxtBody_st_last b hlast) (List.append_nil _)
    · exact goes_of_receive (receive_txtBody b hst) (rxTxtBody_st_more b hlast) (List.append_nil _)
  · next hst => exact goes_of_fixedByte (receive_txtEtx b hst) rfl (List.append_nil _)
  · next hst =>
    split_ifs with hcks
    · exact goes_of_receive (receive_requests (.inr hst) hcks) rfl rfl
    · exact goes_of_receive (receive_refuses (.inr hst) hcks) rfl rfl
  · next hst => exact goes_of_fixedByte (receive_ackWait b hst) rfl rfl
  · next hst => exact goes_of_fixedByte (receive_replyHeaderSent b hst) rfl rfl
  · next hst => exact goes_of_fixedByte (receive_replyTextSent b hst) rfl rfl
  · next hst =>
    split_ifs with hsel hsoh
    · subst hsel
      exact goes_of_receive (receive_sel_start (.inr hst)) rfl (List.append_nil _)
    · subst hsoh
      exact goes_of_receive (receive_soh_start (.inr (.inl hst))) rfl (List.append_nil _)
    · exact goes_of_receive (receive_discarded hst hsoh hsel) hst (List.append_nil _)

/-! ## Every step and every instruction -/

/-- Settles O48: by the kind of the next event, and for an instruction by its row, since every meaning is a next
state. -/
theorem everyStepHasANextState : Obligations.EveryStepHasANextState := by
  refine ⟨fun s => ?step, fun i s => ?exec⟩
  case step =>
    match hrx : s.rx with
    | [] => exact ⟨_, step_nothing hrx⟩
    | .rxByte _ :: _ => exact ⟨_, step_rxByte hrx⟩
    | .timeout :: _ => exact ⟨_, step_timeout hrx⟩
    | .hwReset :: _ => exact ⟨_, step_hwReset hrx⟩
  case exec =>
    cases i
    case rhdr => exact ⟨_, (apply_ite Host.Outcome.next _ _ _).symm⟩
    all_goals exact ⟨_, rfl⟩

/-- Settles O52: the event exists, so `Timeout` clears the frame and returns to `S_IDLE`. -/
theorem timeoutEffect : Obligations.TimeoutEffect := by
  intro s rest hrx hen hst
  have hexists : ((withRx rest s).cfg.timeoutEnabled && (withRx rest s).st != .idle) = true := by
    simpa [withRx, hen] using hst
  rw [step_timeout hrx, timeout, if_pos hexists]
  rfl

end Sys2Proof.Machine
end

section
/-! PROOFS. Runs over whole frames (R175), the step that dispatches (R161, R165), and a complete exchange (R174), which
is followed phase by phase: the select frame, the request, the reply. -/

namespace Sys2Proof.Machine

/-! ## Frames and the dispatching step -/

/-- R175: a frame's instruction is the reception of its bytes, except for the frame that this device sends. -/
theorem exec_of_frame {i : Instr} (s : State) (hlvl : i.level = .frame) (hsent : ∀ d h f z c, i ≠ .rhdr d h f z c) :
    exec i s = .next (receiveAll (encode s.cfg i) s) := by
  cases i
  case selF | hdr | txt => rfl
  case rhdr d h f z c => exact absurd rfl (hsent d h f z c)
  all_goals cases hlvl

/-- Settles O8: the bytes that decode to a frame are those that encode it (`encodeOfDecode`), the steps receive them
(`run_bytes`), and so does the frame's instruction (`exec_of_frame`). -/
theorem stepsRunAFrame : Obligations.StepsRunAFrame := by
  intro s size bytes i rest hdec hsent hrx
  obtain ⟨hlvl, henc⟩ := Laws.DecodeEncode.encodeOfDecode _ _ _ _ _ _ hdec
  rw [List.append_nil] at henc
  subst henc
  exact (run_bytes _ s rest hrx).trans (exec_of_frame (withRx rest s) hlvl hsent).symm

/-- Settles O9: a matching last checksum byte dispatches (`receive_requests`), and a dispatch is the meaning of the
function that `f_fnc` names (`exec_of_decodeFnc`), of `IMG` that of its sub-operation (`exec_img`). -/
theorem lastChecksumByteRunsTheFunction : Obligations.LastChecksumByteRunsTheFunction := by
  refine ⟨fun s rest i hrx hst hfnc => ⟨_, exec_of_decodeFnc hfnc, ?_⟩, fun s i => exec_img⟩
  rw [dispatch_tx, step_rxByte hrx]
  exact congrArg _ (receive_requests (s := withRx rest s) hst.symm rfl)

/-! ## The phases of an exchange -/

@[simp] theorem dispatch_rx (s : State) : (dispatch s).rx = s.rx := by rw [(closed_dispatch s).same]

/-- From `s` to `t` the bytes `sent` went out, no exception was raised and no event was taken from the line. -/
structure Answers (s : State) (sent : List Byte) (t : State) : Prop where
  tx : t.tx = s.tx ++ sent
  rx : t.rx = s.rx
  err_prev : t.err_prev = s.err_prev

theorem Answers.trans {s t u : State} {sent sent' : List Byte} (h : Answers s sent t) (h' : Answers t sent' u) :
    Answers s (sent ++ sent') u where
  tx := by rw [h'.tx, h.tx, List.append_assoc]
  rx := h'.rx.trans h.rx
  err_prev := h'.err_prev.trans h.err_prev

/-- `t` waits for `EOT` with the reply to a request of these ids and this function code (R201, R54 d). -/
structure ReplyPending (did sid fnc : Byte) (t : State) : Prop where
  st : t.st = .ackWait
  r_did : t.r_did = sid
  r_sid : t.r_sid = did
  r_fnc : t.r_fnc = fnc
  sizeLow : 1 ≤ t.r_siz.toNat
  sizeHigh : t.r_siz.toNat ≤ 129

/-- The select frame that may come before a request (R151 to R154). -/
theorem receiveAll_poll {s : State} {poll : Bool} {did : Byte} (sid : Byte) (hst : s.st = .idle)
    (hdid : poll = true → did ∈ s.cfg.unitIds) :
    ∃ t, receiveAll (if poll then [0x31, did, sid, 0x05] else []) s = t ∧ (t.st = .idle ∨ t.st = .hdrSoh) ∧
      Answers s (if poll then [0x06] else []) t := by
  cases poll with
  | false => exact ⟨s, rfl, .inl hst, (List.append_nil _).symm, rfl, rfl⟩
  | true =>
    obtain ⟨u, hu⟩ := (targetUnit_isSome_iff (s := selectReceived did sid s)).mpr (hdid rfl)
    have hexec := exec_selF (.inl hst) did sid
    rw [rxSelEnq_own hu] at hexec
    exact ⟨_, Host.Outcome.next.inj hexec, .inr rfl, rfl, rfl, rfl⟩

/-- A matching last checksum byte leaves the reply pending (R161, R165, R201) and is acknowledged. -/
theorem replyPending_of_receive {s : State} {b : Byte} (hst : (s.st = .hdrCks ∧ s.f_siz = 0) ∨ s.st = .txtCks)
    (hb : b = s.cks) :
    ReplyPending s.f_did s.f_sid s.f_fnc (receive b s) ∧ Answers s [0x06] (receive b s) := by
  obtain ⟨-, hdid, hsid, hfnc, hlow, hhigh⟩ := closed_dispatch (noteChecksum b s)
  rw [receive_requests hst hb]
  exact ⟨⟨rfl, hdid, hsid, hfnc, hlow, hhigh⟩, rfl, dispatch_rx _, dispatch_err_prev _⟩

/-- The state after the checksum byte of a header that announces a text. -/
def textAwaited (did sid fnc siz : Byte) (s : State) : State :=
  { headerReceived did sid fnc siz s with
    lat_cks := headerCks 0x00 did sid fnc siz, tx := s.tx ++ [Config.ACK], cks := 0, cnt := 0, st := .txtStx }

theorem receive_cks_headerReceived (did sid fnc : Byte) {siz : Byte} (s : State) (hsiz : siz ≠ 0) :
    receive (headerCks 0x00 did sid fnc siz) (headerReceived did sid fnc siz s) = textAwaited did sid fnc siz s :=
  receive_announces rfl rfl hsiz

theorem answers_textAwaited (did sid fnc siz : Byte) (s : State) : Answers s [0x06] (textAwaited did sid fnc siz s) :=
  ⟨rfl, rfl, rfl⟩

/-- The text that a request announced (R162 to R165). -/
theorem receiveAll_text {s : State} {body : List Byte} (hst : s.st = .txtStx) (hlen : body.length = s.f_siz.toNat)
    (hpos : 1 ≤ body.length) :
    ∃ t, receiveAll (encodeText body) s = t ∧ ReplyPending s.f_did s.f_sid s.f_fnc t ∧ Answers s [0x06] t := by
  obtain ⟨t, ht, -, hexec⟩ := exec_txt (c := textCks body) hst hlen hpos
  generalize t.txt = txt at ht
  subst ht
  obtain ⟨hreply, htx, hrx, herr⟩ := replyPending_of_receive (b := textCks body)
    (s := { s with st := .txtCks, txt := txt, cnt := s.f_siz, cks := textCks body }) (.inr rfl) rfl
  exact ⟨_, Host.Outcome.next.inj hexec, hreply, htx, hrx, herr⟩

/-- A request: its header, and its text if the header announces one (R155 to R165). -/
theorem receiveAll_request {s : State} (did sid fnc : Byte) {siz : Byte} {body : List Byte}
    (hst : s.st = .idle ∨ s.st = .hdrSoh) (hlen : body.length = siz.toNat) :
    ∃ t, receiveAll (encodeHeader 0x00 did sid fnc siz ++ if body = [] then [] else encodeText body) s = t ∧
      ReplyPending did sid fnc t ∧ Answers s ([0x06] ++ if body = [] then [] else [0x06]) t := by
  have hheader : receiveAll (encodeHeader 0x00 did sid fnc siz) s =
      receive (headerCks 0x00 did sid fnc siz) (headerReceived did sid fnc siz s) :=
    Host.Outcome.next.inj (exec_hdr (hst.imp_right .inr))
  rw [receiveAll_append, hheader]
  by_cases hbody : body = []
  · have hsiz : siz = 0 := BitVec.eq_of_toNat_eq (by rw [← hlen, hbody]; rfl)
    obtain ⟨hreply, htx, hrx, herr⟩ :=
      replyPending_of_receive (s := headerReceived did sid fnc siz s) (.inl ⟨rfl, hsiz⟩) rfl
    rw [if_pos hbody, if_pos hbody]
    exact ⟨_, rfl, hreply, htx, hrx, herr⟩
  · have hpos : 1 ≤ body.length := List.length_pos_iff.mpr hbody
    have hsiz : siz ≠ 0 := by
      rintro rfl
      exact absurd hlen (Nat.ne_of_gt hpos)
    rw [if_neg hbody, if_neg hbody, receive_cks_headerReceived did sid fnc s hsiz]
    obtain ⟨t, ht, hreply, hanswers⟩ := receiveAll_text (s := textAwaited did sid fnc siz s) rfl hlen hpos
    exact ⟨t, ht, hreply, (answers_textAwaited did sid fnc siz s).trans hanswers⟩

/-- `EOT`, `ACK`, `ACK` fetch the pending reply (R166 to R168). -/
theorem receiveAll_fetch {s : State} (hst : s.st = .ackWait) :
    receiveAll [0x04, 0x06, 0x06] s =
      { clearFrame s with
        st := .idle, tx := s.tx ++ pendingHeader s ++ encodeText (pendingText s) ++ [Config.EOT] } := by
  rw [receiveAll_cons, receive_ackWait _ hst]
  rfl

theorem length_pendingText {s : State} (h : s.r_siz.toNat ≤ 129) : (pendingText s).length = s.r_siz.toNat := by
  simpa [pendingText] using h

/-- The pending reply on the wire. -/
theorem pendingHeader_eq {did sid fnc : Byte} {t : State} (h : ReplyPending did sid fnc t) :
    pendingHeader t = encodeHeader 0x01 sid did fnc (BitVec.ofNat 8 (pendingText t).length) := by
  rw [pendingHeader, h.r_did, h.r_sid, h.r_fnc, length_pendingText h.sizeHigh, BitVec.ofNat_toNat, BitVec.setWidth_eq]

/-- Settles O59, phase by phase: the select frame if there is one (`receiveAll_poll`), the request
(`receiveAll_request`), and the fetching of the reply it left pending (`receiveAll_fetch`). -/
theorem completeExchange : Obligations.CompleteExchange := by
  intro s poll did sid fnc body rest hst hlen hpoll siz host hrx
  have hsiz : body.length = siz.toNat := by
    rw [BitVec.toNat_ofNat]
    omega
  obtain ⟨s₁, h₁, hst₁, hanswers₁⟩ := receiveAll_poll (s := withRx rest s) sid hst hpoll
  obtain ⟨s₂, h₂, hreply, hanswers₂⟩ := receiveAll_request did sid fnc hst₁ hsiz
  have hhost : host = (if poll then [0x31, did, sid, 0x05] else []) ++
      ((encodeHeader 0x00 did sid fnc siz ++ if body = [] then [] else encodeText body) ++ [0x04, 0x06, 0x06]) := by
    rw [← List.append_assoc, ← List.append_assoc]
    rfl
  have hrun : receiveAll host (withRx rest s) = receiveAll [0x04, 0x06, 0x06] s₂ := by
    rw [hhost, receiveAll_append, h₁, receiveAll_append, h₂]
  have hlenR := length_pendingText hreply.sizeHigh
  obtain ⟨htx, hrx', herr⟩ := hanswers₁.trans hanswers₂
  refine ⟨_, pendingText s₂, hlenR ▸ hreply.sizeLow, hlenR ▸ hreply.sizeHigh,
    (run_bytes host s rest hrx).trans (congrArg _ (hrun.trans (receiveAll_fetch hreply.st))), rfl,
    frameClear_clearFrame s₂, hrx', herr, ?_⟩
  rw [← pendingHeader_eq hreply]
  show s₂.tx ++ _ ++ _ ++ _ = _
  rw [htx, ← List.append_assoc, ← List.append_assoc]
  rfl

end Sys2Proof.Machine
end

section
/-! PROOFS. The dispatched disk functions (R200 to R212): what each of them does once its size and its unit are known,
and what none of them writes. -/

namespace Sys2Proof.Machine

/-! ## Which function an instruction names -/

theorem exec_reset (s : State) : exec .reset s = .next (fnReset s) := rfl

theorem exec_select (s : State) : exec .select s = .next (fnSelect s) := rfl

theorem exec_flush (s : State) : exec .flush s = .next (fnFlush s) := rfl

/-- The functions and sub-operations that need a unit, each with the size it expects (R100, R211). -/
def unitRows : List (Instr × Nat) :=
  [(.select, 0), (.read, 2), (.write, 130), (.imgMount, 13), (.imgCreate, 1), (.imgProtect, 1)]

/-- The functions and sub-operations that expect a size (R100), each with that size. -/
def sizedRows : List (Instr × Nat) :=
  [(.reset, 0), (.select, 0), (.read, 2), (.write, 130), (.flush, 0), (.imgDir, 1), (.imgMount, 13), (.imgCreate, 1),
   (.imgProtect, 1), (.imgDefaults, 1)]

/-- R202 test 2: each of these begins with the size check. -/
theorem exec_of_sizedRows {i : Instr} {size : Nat} (h : (i, size) ∈ sizedRows) :
    ∃ f, ∀ s, exec i s = .next (withSize size f s) := by
  simp only [sizedRows, List.mem_cons, Prod.mk.injEq, List.not_mem_nil, or_false] at h
  rcases h with ⟨rfl, rfl⟩ | ⟨rfl, rfl⟩ | ⟨rfl, rfl⟩ | ⟨rfl, rfl⟩ | ⟨rfl, rfl⟩ | ⟨rfl, rfl⟩ | ⟨rfl, rfl⟩ |
    ⟨rfl, rfl⟩ | ⟨rfl, rfl⟩ | ⟨rfl, rfl⟩ <;> exact ⟨_, fun _ => rfl⟩

/-- R202 test 3: each of these has the unit check after the size check. -/
theorem exec_of_unitRows {i : Instr} {size : Nat} (h : (i, size) ∈ unitRows) :
    ∃ f, ∀ s, exec i s = .next (withSize size (withUnit f) s) := by
  simp only [unitRows, List.mem_cons, Prod.mk.injEq, List.not_mem_nil, or_false] at h
  rcases h with ⟨rfl, rfl⟩ | ⟨rfl, rfl⟩ | ⟨rfl, rfl⟩ | ⟨rfl, rfl⟩ | ⟨rfl, rfl⟩ | ⟨rfl, rfl⟩ <;>
    exact ⟨_, fun _ => rfl⟩

theorem decodeFnc_of_not_mem {b : Byte} (h : b ∉ fncRows.map (·.1)) : decodeFnc b = .error (.unknownFunction b) := by
  rw [decodeFnc, lookup_eq_none h]

/-! ## What no dispatched function writes -/

/-- Every function and every sub-operation has closed effects (R210). -/
theorem closed_exec {i : Instr} {s t : State} (hi : i.level = .fnc ∨ i.level = .img) (h : exec i s = .next t) :
    Closed s t := by
  cases i
  case reset => cases h; exact closed_fnReset s
  case select => cases h; exact closed_fnSelect s
  case read => cases h; exact closed_fnRead s
  case write => cases h; exact closed_fnWrite s
  case flush => cases h; exact closed_fnFlush s
  case img => cases h; exact closed_fnImg s
  case imgDir => cases h; exact closed_fnImgDir s
  case imgMount => cases h; exact closed_fnImgMount s
  case imgCreate => cases h; exact closed_fnImgCreate s
  case imgProtect => cases h; exact closed_fnImgProtect s
  case imgDefaults => cases h; exact closed_fnImgDefaults s
  all_goals simp [Instr.level] at hi

/-- Settles O40: the function or sub-operation has closed effects (`closed_exec`). -/
theorem dispatchClosedEffects : Obligations.DispatchClosedEffects := by
  intro i s t hi hexec
  obtain ⟨hsame, hdid, hsid, hfnc, hlow, hhigh⟩ := closed_exec hi hexec
  exact ⟨hsame, hdid, hsid, hfnc, hlow, hhigh⟩

/-! ## Reply assembly -/

/-- A reply leaves the buffer beyond its own text. -/
theorem getElem_overwrite_of_length_le {n : Nat} {R : List Byte} (v : Vector Byte n) {i : Fin n}
    (h : R.length ≤ i.val) : (overwrite R v)[i] = v[i] := by
  simp [overwrite, List.getElem?_eq_none h]

/-- Settles O25: the text is read back whole (`pendingText_reply`), and the buffer beyond it is left
(`getElem_overwrite_of_length_le`). -/
theorem replyAssembly : Obligations.ReplyAssembly :=
  fun s _ _ hlen =>
    ⟨_, rfl, rfl, toNat_length hlen, pendingText_reply s hlen, fun _ hi => getElem_overwrite_of_length_le s.rtxt hi⟩

/-! ## Requests answered before their function is carried out -/

/-- Settles O31: each of these begins with the size check (`exec_of_sizedRows`). -/
theorem sizeMismatch : Obligations.SizeMismatch := by
  intro s i size hrow hsiz
  obtain ⟨f, hexec⟩ := exec_of_sizedRows hrow
  rw [hexec, withSize_of_ne hsiz, malformed]

/-- Settles O32: each of these has the unit check next (`exec_of_unitRows`). -/
theorem unrecognisedUnit : Obligations.UnrecognisedUnit := by
  intro s i size hrow hsiz hdid
  obtain ⟨f, hexec⟩ := exec_of_unitRows hrow
  rw [hexec, withSize_of_eq hsiz, withUnit_none (targetUnit_eq_none hdid)]

/-- Settles O33: the function code has no row in the table (`decodeFnc_of_not_mem`). -/
theorem unknownFunctionCode : Obligations.UnknownFunctionCode := by
  intro s hfnc
  rw [dispatch, decodeFnc_of_not_mem hfnc]
  rfl

/-! ## The functions that touch no medium -/

/-- Settles O26: the size check passes (`withSize_of_eq`), and `RESET` has no other. -/
theorem resetFunction : Obligations.ResetFunction := by
  intro s hsiz
  rw [exec_reset, fnReset, withSize_of_eq (f_siz_toNat hsiz)]
  rfl

/-- Settles O27, by the two outcomes of the unit check. -/
theorem selectFunction : Obligations.SelectFunction := by
  intro s hsiz
  rw [exec_select, fnSelect, withSize_of_eq (f_siz_toNat hsiz)]
  refine ⟨fun u hu => ?own, fun hu => ?other⟩
  case own =>
    rw [withUnit_some hu]
    rfl
  case other => rw [withUnit_none hu]

/-- Settles O30: the size check passes (`withSize_of_eq`), and `FLUSH` has no other. -/
theorem flushFunction : Obligations.FlushFunction := by
  intro s hsiz
  rw [exec_flush, fnFlush, withSize_of_eq (f_siz_toNat hsiz)]

/-! ## `READ` -/

/-- R70, R205: there is no such sector, or the unit's image is absent. -/
theorem exec_read_unavailable {s : State} {u : Nat} (hsiz : s.f_siz = 2) (hu : targetUnit s = some u)
    (h : 2560 ≤ s.txt[0].toNat + 256 * s.txt[1].toNat ∨ imageOf s u = none) :
    exec .read s = .next (reply [0xFA] s) := by
  have hz : s.f_siz.toNat = 2 := f_siz_toNat hsiz
  rw [exec_read, fnRead, withSize_of_eq hz, withUnit_some hu, sectorNumber_requestText hz.ge, memRead]
  split
  · rfl
  · next hn => rw [h.resolve_left hn]; rfl

/-- Settles O28: without the sector or without the image there is nothing to read (`exec_read_unavailable`); otherwise
the text is the sector, byte by byte (`exec_read_of_image`). -/
theorem readFunction : Obligations.ReadFunction := by
  intro s u hsiz hu n
  refine ⟨fun hn => exec_read_unavailable hsiz hu (.inl hn), fun _ hm => exec_read_unavailable hsiz hu (.inr hm),
    fun hn m hm => ⟨_, Memory.length_readList .., fun i hi => ?_, exec_read_of_image hsiz hu hn hm⟩⟩
  rw [Memory.getElem?_readList, if_pos hi]

/-! ## `WRITE` -/

/-- R71, R206: the unit is not protected, but there is no such sector, or its image is absent. -/
theorem exec_write_unavailable {s : State} {u : Nat} (hsiz : s.f_siz = 130) (hu : targetUnit s = some u)
    (hwp : unitWp s u = false) (h : 2560 ≤ s.txt[0].toNat + 256 * s.txt[1].toNat ∨ imageOf s u = none) :
    exec .write s = .next (reply [0xFB] s) := by
  have hz : s.f_siz.toNat = 130 := f_siz_toNat hsiz
  rw [exec_write_of_size hz hu, sectorNumber_requestText (by omega), memWrite, if_neg (by simp [hwp])]
  split
  · rfl
  · next hn => rw [h.resolve_left hn]; rfl

theorem storedBytes_of_failure {s : State} (h : (nextDraw s).fails = true) :
    storedBytes s = (nextDraw s).left.toList := if_pos h

theorem storeStatus_of_failure {s : State} (h : (nextDraw s).fails = true) : storeStatus s = 0xFB := if_pos h

/-- Settles O29, test by test (R71): protection (`exec_write_protected`), the sector and the image
(`exec_write_unavailable`), and the medium's answer, which decides the status and the bytes stored
(`exec_write_of_reaches`). -/
theorem writeFunction : Obligations.WriteFunction := by
  intro s u hsiz hu n stored
  refine ⟨exec_write_protected hsiz hu, fun hwp hn => exec_write_unavailable hsiz hu hwp (.inl hn),
    fun hwp _ hm => exec_write_unavailable hsiz hu hwp (.inr hm), fun hwp hn m hm => ?reached⟩
  case reached =>
    have hnum : sectorNumber (requestText s) = n := sectorNumber_requestText (by rw [hsiz]; decide)
    have hwritten : sectorWritten u m s = stored m (storedBytes s) := by
      rw [sectorWritten, hnum]
      rfl
    rw [exec_write_of_reaches ⟨hsiz, hu, hwp, hnum ▸ hn, hm⟩, hwritten]
    refine ⟨fun hf => ?_, fun hf => ?_⟩
    · rw [storeStatus_of_success hf, storedBytes_of_success hf]
    · rw [storeStatus_of_failure hf, storedBytes_of_failure hf]

/-- Settles O45: out of range there is no sector to read (`exec_read_unavailable`) or to write
(`exec_write_unavailable`), and protection is looked at before the range (`exec_write_protected`). -/
theorem outOfRangeLaw : Obligations.OutOfRangeLaw := fun _ _ hu hn =>
  ⟨fun hsiz => exec_read_unavailable hsiz hu (.inl hn), fun hsiz hwp => exec_write_unavailable hsiz hu hwp (.inl hn),
    fun hsiz => exec_write_protected hsiz hu⟩

end Sys2Proof.Machine
end

section
/-! PROOFS. Image management (R230 to R237): which sub-operation a request names, what each of the five does once its
size and its unit are known, and the pages of a listing. -/

namespace Sys2Proof.Machine

/-! ## Which sub-operation a request names -/

theorem exec_imgDir (s : State) : exec .imgDir s = .next (fnImgDir s) := rfl

theorem exec_imgMount (s : State) : exec .imgMount s = .next (fnImgMount s) := rfl

theorem exec_imgCreate (s : State) : exec .imgCreate s = .next (fnImgCreate s) := rfl

theorem exec_imgProtect (s : State) : exec .imgProtect s = .next (fnImgProtect s) := rfl

theorem exec_imgDefaults (s : State) : exec .imgDefaults s = .next (fnImgDefaults s) := rfl

theorem decodeImg_of_not_mem {p : Params} {b : Byte} (h : b ∉ p.imgCodes) :
    decodeImg p b = .error (.unknownSubOperation b) := by
  have hlookup : (imgRows p).lookup b = none := lookup_eq_none h
  rw [decodeImg, hlookup]

/-- The five codes are distinct (R7), so each row is the one that is found. -/
theorem decodeImg_of_mem {p : Params} {b : Byte} {i : Instr} (hp : p.wf = true) (h : (b, i) ∈ imgRows p) :
    decodeImg p b = .ok i := by
  have hlookup : (imgRows p).lookup b = some i := lookup_eq_some h (Laws.DecodeEncode.codes_nodup hp)
  rw [decodeImg, hlookup]

/-- R230: with no text there is no sub-operation. -/
theorem exec_img_of_no_text {s : State} (hsiz : s.f_siz = 0) : exec .img s = .next (malformed s) :=
  congrArg Host.Outcome.next (if_pos hsiz)

/-- R236: the first text byte is none of the five codes. -/
theorem exec_img_of_unknown {s : State} (hsiz : s.f_siz ≠ 0) (hsub : s.txt[0] ∉ s.cfg.imgCodes) :
    exec .img s = .next (malformed s) := by
  show Host.Outcome.next (fnImg s) = _
  rw [fnImg, if_neg hsiz, subOperation_requestText (f_siz_pos hsiz), decodeImg_of_not_mem hsub]
  rfl

/-- R230: the first text byte is a code of the table. -/
theorem exec_img_of_row {s : State} {i : Instr} (hsiz : s.f_siz ≠ 0) (hp : s.cfg.wf = true)
    (hrow : (s.txt[0], i) ∈ imgRows s.cfg) : ∃ t, exec .img s = .next t ∧ exec i s = .next t :=
  ⟨fnImg s, rfl, (exec_img (f_siz_pos hsiz) (decodeImg_of_mem hp hrow)).symm⟩

/-- Settles O34: no text (`exec_img_of_no_text`), an unknown code (`exec_img_of_unknown`), and a row of the table for
each of the five (`exec_img_of_row`). -/
theorem imageManagementDecoding : Obligations.ImageManagementDecoding := by
  intro s
  refine ⟨exec_img_of_no_text, exec_img_of_unknown, fun hsiz hp => ⟨?_, ?_, ?_, ?_, ?_⟩⟩ <;>
    exact fun hsub => exec_img_of_row hsiz hp (by simp [imgRows, hsub])

/-! ## `IMG.MOUNT`, `IMG.PROTECT` and `IMG.DEFAULTS` -/

/-- Settles O36: the checks pass, and the name is read off the request text (`nameOperand_requestText`). -/
theorem mountFunction : Obligations.MountFunction := by
  intro s u hsiz hu
  have hz : s.f_siz.toNat = 13 := f_siz_toNat hsiz
  refine ⟨nameOperand (requestText s), nameOperand_requestText hz, ?_⟩
  rw [exec_imgMount, fnImgMount, withSize_of_eq hz, withUnit_some hu]
  rfl

/-- R234: the unit's own flag, if the table has one, is toggled, and every other one kept. -/
theorem unitWp_toggleProtect {s : State} {u : Nat} (hu : u < s.wp.length) (v : Nat) :
    unitWp (toggleProtect u s) v = if v = u then !(unitWp s u) else unitWp s v := by
  simp only [unitWp, toggleProtect_wp, List.getD_eq_getElem?_getD, List.getElem?_modify]
  by_cases hv : v = u
  · subst hv
    simp [hu]
  · simp [hv, Ne.symm hv]

/-- Settles O38: the checks pass, and the flags are as `unitWp_toggleProtect` says. -/
theorem toggleProtectFunction : Obligations.ToggleProtect := by
  intro s u hsiz hu hlt
  refine ⟨toggleProtect u s, ?_, rfl, unitWp_toggleProtect hlt⟩
  rw [exec_imgProtect, fnImgProtect, withSize_of_eq (f_siz_toNat hsiz), withUnit_some hu]

/-- Settles O39: the size check passes (`withSize_of_eq`), and `IMG.DEFAULTS` has no other. -/
theorem defaultsFunction : Obligations.DefaultsFunction := by
  intro s hsiz
  rw [exec_imgDefaults, fnImgDefaults, withSize_of_eq (f_siz_toNat hsiz)]
  rfl

/-! ## `IMG.CREATE` -/

/-- R233, R73: an image that exists is left alone. -/
theorem exec_imgCreate_of_present {s : State} {u : Nat} (hsiz : s.f_siz = 1) (hu : targetUnit s = some u)
    (h : imageExists u s = true) : exec .imgCreate s = .next (reply [0xFB] s) := by
  rw [exec_imgCreate, fnImgCreate, withSize_of_eq (f_siz_toNat hsiz), withUnit_some hu, if_pos h]

/-- R233: with no image of the name, `Create` is called. -/
theorem exec_imgCreate_of_absent {s : State} {u : Nat} (hsiz : s.f_siz = 1) (hu : targetUnit s = some u)
    (h : Files.find s.files (unitName s u) = none) : exec .imgCreate s = .next (createFresh u s) := by
  rw [exec_imgCreate, fnImgCreate, withSize_of_eq (f_siz_toNat hsiz), withUnit_some hu,
    if_neg (by simp [imageExists, imageOf, h])]

/-- R74: the medium refuses. -/
theorem createFresh_of_failure {s : State} (u : Nat) (h : (nextDraw s).fails = true) :
    createFresh u s = reply [0xFB] (takeDraw s) := by
  rw [createFresh, createImage, if_pos h]

/-- The state in which `Create(u)` succeeds, before the reply: the new image, its listing, and the cursor rewound
(R74, R75, R233). -/
def imageCreated (u : Nat) (s : State) : State :=
  { takeDraw s with
    files := Files.put s.files (unitName s u) []
    listing := relist (Files.put s.files (unitName s u) []) (unitName s u) (nextDraw s) s.listing
    dir_cursor := 0 }

/-- R74: the medium accepts. -/
theorem createFresh_of_success {s : State} (u : Nat) (h : (nextDraw s).fails = false) :
    createFresh u s = reply [0x00] (imageCreated u s) := by
  rw [createFresh, createImage, if_neg (by simp [h])]
  rfl

/-- The new image is there under its name, and every other name has what it had. -/
theorem find_imageCreated {s : State} (h : Files.wf s.cfg.newImageFill s.files = true) (u : Nat) (x : Name) :
    Files.find (imageCreated u s).files x = if x = unitName s u then some [] else Files.find s.files x :=
  Files.find_put (unitName s u) [] h x

/-- Settles O37, by the tests in R233's order: the image's existence (`exec_imgCreate_of_present`,
`exec_imgCreate_of_absent`), then the medium's answer (`createFresh_of_failure`, `createFresh_of_success`). The new
medium is read off by `find_imageCreated`, its listing is one that R75 allows by `legalListing_relist`. -/
theorem createFunction : Obligations.CreateFunction := by
  intro s u hsiz hu hwf hlisting
  refine ⟨exec_imgCreate_of_present hsiz hu, fun habsent hfails => ?refused, fun habsent hfails => ?created⟩
  case refused =>
    rw [exec_imgCreate_of_absent hsiz hu habsent, createFresh_of_failure u hfails]
    rfl
  case created =>
    refine ⟨imageCreated u s, ?_, rfl, ⟨[], ?_, fun _ => rfl⟩, fun x hx => ?_, legalListing_relist habsent hlisting⟩
    · rw [exec_imgCreate_of_absent hsiz hu habsent, createFresh_of_success u hfails]
    · rw [find_imageCreated hwf, if_pos rfl]
    · rw [find_imageCreated hwf, if_neg hx]

/-! ## `IMG.DIR` -/

/-- R231: `min(8, m - dir_cursor)` entries from the cursor on are the next 8, as far as there are any. -/
theorem page_eq (s : State) : page s = (s.listing.drop s.dir_cursor).take 8 := by
  have hlen : s.listing.length - s.dir_cursor = (s.listing.drop s.dir_cursor).length := List.length_drop.symm
  rw [page, pageCount, dirList, hlen, ← List.take_take, List.take_length]

/-- R231: the cursor moves on by 8 after a full page and is rewound after any other. -/
theorem nextCursor_eq (s : State) : nextCursor s = if (page s).length = 8 then s.dir_cursor + 8 else 0 := by
  rw [page_eq, List.length_take, List.length_drop]
  rfl

theorem exec_imgDir_of_size {s : State} (hsiz : s.f_siz = 1) :
    exec .imgDir s = .next (reply (0x00 :: (page s).flatMap entryBytes) { s with dir_cursor := nextCursor s }) := by
  rw [exec_imgDir, fnImgDir, withSize_of_eq (f_siz_toNat hsiz)]
  rfl

/-- Settles O35: the page (`page_eq`) and the cursor after it (`nextCursor_eq`). -/
theorem directoryPage : Obligations.DirectoryPage := by
  intro s hsiz es
  rw [exec_imgDir_of_size hsiz, nextCursor_eq, page_eq]
  rfl

/-! ## The pages of a listing -/

/-- The first `n` slices of `k` elements each, put together. -/
theorem flatMap_range_slices {α : Type} (l : List α) (k n : Nat) :
    ((List.range n).flatMap fun j => (l.drop (k * j)).take k) = l.take (k * n) := by
  induction n with
  | zero => simp
  | succ n ih => rw [List.range_succ, List.flatMap_append, ih, Nat.mul_succ, List.take_add, List.flatMap_singleton]

/-- `t` has the cursor and the listing of `s`, all that the next page depends on (R237). -/
structure SameDirectory (s t : State) : Prop where
  cursor : t.dir_cursor = s.dir_cursor
  listing : t.listing = s.listing

theorem sameDirectory_withSize {k : Nat} {f : State → State} {s : State} (h : SameDirectory s (f s)) :
    SameDirectory s (withSize k f s) := by
  rcases withSize_cases k f s with ⟨-, e⟩ | ⟨-, e⟩ <;> rw [e]
  · exact h
  · exact ⟨rfl, rfl⟩

theorem sameDirectory_withUnit {f : Nat → State → State} {s : State} (h : ∀ u, SameDirectory s (f u s)) :
    SameDirectory s (withUnit f s) := by
  rcases withUnit_cases f s with ⟨u, -, e⟩ | ⟨-, e⟩ <;> rw [e]
  · exact h u
  · exact ⟨rfl, rfl⟩

/-- The functions that R237 names leave the cursor and the listing. -/
theorem sameDirectory_exec {i : Instr} {s t : State}
    (hi : i ∈ [Instr.select, .read, .write, .flush, .imgMount, .imgProtect]) (h : exec i s = .next t) :
    SameDirectory s t := by
  cases i
  case select | read | imgMount | imgProtect =>
    cases h
    exact sameDirectory_withSize (sameDirectory_withUnit fun _ => ⟨rfl, rfl⟩)
  case write => rcases exec_write_cases h with ⟨-, b, rfl⟩ | ⟨u, m, -, rfl⟩ <;> exact ⟨rfl, rfl⟩
  case flush =>
    cases h
    exact sameDirectory_withSize ⟨rfl, rfl⟩
  all_goals simp at hi

/-- Successive directory requests from the start of the listing `L` (R237): request `j` is met in `S j` and leads to
`T j`, and nothing between two requests moves the cursor or changes the listing. -/
structure Paging (S T : Nat → State) (L : List DirEntry) : Prop where
  answered : ∀ j, exec .imgDir (S j) = .next (T j)
  size : ∀ j, (S j).f_siz = 1
  listing : ∀ j, (S j).listing = L
  start : (S 0).dir_cursor = 0
  onward : ∀ j, (S (j + 1)).dir_cursor = (T j).dir_cursor

namespace Paging

variable {S T : Nat → State} {L : List DirEntry}

theorem answer_eq (h : Paging S T L) (j : Nat) :
    T j = reply (0x00 :: (page (S j)).flatMap entryBytes) { S j with dir_cursor := nextCursor (S j) } :=
  Host.Outcome.next.inj ((h.answered j).symm.trans (exec_imgDir_of_size (h.size j)))

theorem pendingText_answer (h : Paging S T L) (j : Nat) :
    pendingText (T j) = 0x00 :: (page (S j)).flatMap entryBytes := by
  rw [h.answer_eq j, pendingText_reply _ (length_dirReply (S j))]

theorem cursor_answer (h : Paging S T L) (j : Nat) :
    (T j).dir_cursor = if (page (S j)).length = 8 then (S j).dir_cursor + 8 else 0 := by
  rw [h.answer_eq j, ← nextCursor_eq]
  rfl

/-- Before the last page every page is full, so the cursor has moved on by 8 for each. -/
theorem cursor_eq (h : Paging S T L) {j : Nat} (hj : j ≤ L.length / 8) : (S j).dir_cursor = 8 * j := by
  induction j with
  | zero => exact h.start
  | succ j ih =>
    have hcur : (S j).dir_cursor = 8 * j := ih (by omega)
    have hfull : (page (S j)).length = 8 := by
      rw [page_eq, h.listing, hcur, List.length_take, List.length_drop]
      omega
    rw [h.onward, h.cursor_answer, if_pos hfull, hcur, Nat.mul_succ]

theorem page_eq_slice (h : Paging S T L) {j : Nat} (hj : j ≤ L.length / 8) :
    page (S j) = (L.drop (8 * j)).take 8 := by
  rw [page_eq, h.listing, h.cursor_eq hj]

/-- The last page is short. -/
theorem length_last_page (h : Paging S T L) : (page (S (L.length / 8))).length < 8 := by
  rw [h.page_eq_slice le_rfl, List.length_take, List.length_drop]
  omega

/-- The pages together are the listing. -/
theorem pages_eq (h : Paging S T L) : ((List.range (L.length / 8 + 1)).flatMap fun j => page (S j)) = L := by
  have hslices : ((List.range (L.length / 8 + 1)).flatMap fun j => page (S j)) =
      (List.range (L.length / 8 + 1)).flatMap fun j => (L.drop (8 * j)).take 8 :=
    List.flatMap_congr fun j hj => h.page_eq_slice (Nat.le_of_lt_succ (List.mem_range.mp hj))
  rw [hslices, flatMap_range_slices, List.take_of_length_le (by omega)]

end Paging

/-- Settles O46: each page is its slice of the listing (`Paging.page_eq_slice`, by induction on the page), the slices
together are the listing (`Paging.pages_eq`), and the last is short (`Paging.length_last_page`), which rewinds the
cursor. -/
theorem pagingLaw : Obligations.PagingLaw := by
  intro S T L hanswered hsize hlisting hstart honward
  have h : Paging S T L := ⟨hanswered, hsize, hlisting, hstart, honward⟩
  have hshort := h.length_last_page
  refine ⟨fun j hj => ?text, ?all, ?rewound, ?short, fun i s t hi hexec => ?undisturbed⟩
  case text => rw [h.pendingText_answer, h.page_eq_slice hj]
  case all =>
    simp only [h.pendingText_answer, List.tail_cons]
    rw [← List.flatMap_assoc, h.pages_eq]
  case rewound => rw [h.cursor_answer, if_neg hshort.ne]
  case short =>
    rw [h.pendingText_answer, List.length_cons, length_entries]
    omega
  case undisturbed =>
    obtain ⟨hcursor, hkept⟩ := sameDirectory_exec hi hexec
    exact ⟨hcursor, hkept⟩

end Sys2Proof.Machine
end

section
/-! PROOFS. The two exceptions (R251 to R253): their effect as a step, and that nothing else enters `S_ERROR` or writes
`err_prev`. -/

namespace Sys2Proof.Machine

/-- Settles O12: the refusal of `receive_refuses`, as a step. -/
theorem checksumFailureEffect : Obligations.ChecksumFailureEffect :=
  fun _ _ _ hrx hb hst => step_of_receive hrx (receive_refuses hst hb)

/-! ## What leads to `S_ERROR` -/

/-- R251: the bytes that `rejects` names, with the states that accept some bytes only. -/
theorem rejects_iff {b : Byte} {st : St} :
    rejects b st ↔
      (st = .idle ∧ b ≠ 0x01 ∧ b ≠ 0x31) ∨ (st = .selEnq ∧ b ≠ 0x05) ∨ (st = .hdrSoh ∧ b ≠ 0x01) ∨
      (st = .hdrFmt ∧ b ≠ 0x00) ∨ (st = .txtStx ∧ b ≠ 0x02) ∨ (st = .txtEtx ∧ b ≠ 0x03) ∨
      (st = .ackWait ∧ b ≠ 0x04) ∨ (st = .replyHeaderSent ∧ b ≠ 0x06) ∨ (st = .replyTextSent ∧ b ≠ 0x06) := by
  cases st <;> simp [rejects]

/-- The transitions into `S_ERROR` start where an exception can be raised, or in `S_ERROR`. -/
theorem source_of_transition_to_error {b : Byte} {s t : State} (ht : Transition b s t) (herr : t.st = .error) :
    awaitsFixedByte s.st ∨ (s.st = .hdrCks ∨ s.st = .txtCks) ∨ (s.st = .error ∧ t = s) := by
  cases ht
  case violation hst => exact .inl hst
  case badChecksum hst => exact .inr (.inl hst)
  case discard hst => exact .inr (.inr ⟨hst, rfl⟩)
  case frameStart hst' => rcases hst' with rfl | rfl <;> cases herr
  case txtBody => rcases rxTxtBody_st_cases b s with h | h <;> cases h.symm.trans herr
  all_goals cases herr

/-- A state that accepts one byte only goes to `S_ERROR` for another. -/
theorem ne_of_fixedByte {b c : Byte} {s u : State} (h : receive b s = if b = c then u else framingViolation s)
    (hu : u.st ≠ .error) (herr : (receive b s).st = .error) : b ≠ c := by
  rintro rfl
  rw [h, if_pos rfl] at herr
  exact hu herr

theorem rejects_of_receive_to_error {b : Byte} {s : State} (hst : awaitsFixedByte s.st)
    (herr : (receive b s).st = .error) : rejects b s.st := by
  rcases hst with hst | hst | hst | hst | hst | hst | hst | hst | hst <;> rw [hst]
  · constructor <;> rintro rfl
    · cases (receive_soh_start (.inl hst)) ▸ herr
    · cases (receive_sel_start (.inl hst)) ▸ herr
  · exact ne_of_fixedByte (receive_selEnq b hst) (by split <;> simp) herr
  · exact ne_of_fixedByte (receive_hdrSoh b hst) (by simp) herr
  · exact ne_of_fixedByte (receive_hdrFmt b hst) (by simp) herr
  · exact ne_of_fixedByte (receive_txtStx b hst) (by simp) herr
  · exact ne_of_fixedByte (receive_txtEtx b hst) (by simp) herr
  · exact ne_of_fixedByte (receive_ackWait b hst) (by simp [sendReplyHeader]) herr
  · exact ne_of_fixedByte (receive_replyHeaderSent b hst) (by simp) herr
  · exact ne_of_fixedByte (receive_replyTextSent b hst) (by simp) herr

theorem ne_cks_of_receive_to_error {b : Byte} {s : State} (hst : s.st = .hdrCks ∨ s.st = .txtCks)
    (herr : (receive b s).st = .error) : b ≠ s.cks := by
  intro hb
  rcases hst with hst | hst
  · by_cases hsiz : s.f_siz = 0
    · cases (congrArg State.st (receive_requests (.inl ⟨hst, hsiz⟩) hb)).symm.trans herr
    · cases (congrArg State.st (receive_announces hst hb hsiz)).symm.trans herr
  · cases (congrArg State.st (receive_requests (.inr hst) hb)).symm.trans herr

/-- A byte leads to `S_ERROR` if the state rejects it, if it is a checksum byte that differs, or if it is discarded
there. -/
theorem receive_to_error_cases {b : Byte} {s : State} (herr : (receive b s).st = .error) :
    rejects b s.st ∨ ((s.st = .hdrCks ∨ s.st = .txtCks) ∧ b ≠ s.cks) ∨ (s.st = .error ∧ receive b s = s) := by
  rcases source_of_transition_to_error (receive_transition b s) herr with hst | hst | hdiscard
  · exact .inl (rejects_of_receive_to_error hst herr)
  · exact .inr (.inl ⟨hst, ne_cks_of_receive_to_error hst herr⟩)
  · exact .inr (.inr hdiscard)

/-- Settles O11: a byte that the state rejects is the violation of `step_of_rejects`; any other leads to `S_ERROR` only
as `receive_to_error_cases` says, and `err_prev` is written only on the way there (`err_prev_of_transition`). -/
theorem framingViolationEffect : Obligations.FramingViolationEffect := by
  intro s b rest hrx violates
  refine ⟨fun h => step_of_rejects hrx rfl (rejects_iff.mpr h), fun h => ?_⟩
  have hcases (herr : (receive b (withRx rest s)).st = .error) :=
    (receive_to_error_cases herr).resolve_left (mt rejects_iff.mp h)
  refine ⟨_, step_rxByte hrx, hcases, fun hmatch => ?unwritten⟩
  case unwritten =>
    rw [err_prev_of_transition (receive_transition b _), if_neg]
    · rfl
    · rintro ⟨herr, hne⟩
      rcases hcases herr with hbad | ⟨hst, -⟩
      · exact hmatch hbad
      · exact hne hst

end Sys2Proof.Machine
end


section
/-! PROOFS. The hardware reset (R280, R282), and two laws of the drive table: the selection gates nothing (R291), and
units mounted on one name are one image (R292). -/

namespace Sys2Proof.Machine

/-- Settles O51: the step is `hwReset` (`step_hwReset`), which takes every register from `State.resetWith`. -/
theorem hwResetEffect : Obligations.HwResetEffect := fun _ _ hrx =>
  ⟨_, step_hwReset hrx, rfl, ⟨rfl, rfl, rfl, rfl, rfl, rfl, rfl⟩, rfl, rfl, rfl, rfl, rfl, rfl, rfl, rfl, rfl, rfl, rfl,
    rfl, rfl, rfl, rfl, rfl, rfl, rfl, rfl⟩

/-! ## Two units on one image -/

/-- R69: the image is found by the name alone. -/
theorem imageOf_congr {s : State} {u v : Nat} (h : unitName s u = unitName s v) : imageOf s u = imageOf s v :=
  congrArg (Files.find s.files) h

/-- Settles O60: `u` refuses before the medium is looked at (`exec_write_protected`); `v`, which is not protected,
reaches the image (`exec_write_of_reaches`). A `WRITE` changes no name, so the two units still share one
(`imageOf_congr`). -/
theorem twoUnitsOnOneImage : Obligations.TwoUnitsOnOneImage := by
  intro s u v hname
  refine ⟨imageOf_congr hname, fun hsiz hwpu hwpv => ⟨fun hu => ?refused, fun hv hok himage hn => ?accepted⟩⟩
  case refused => exact ⟨_, exec_write_protected hsiz hu hwpu, pendingText_reply s (by simp), rfl⟩
  case accepted =>
    obtain ⟨m, hm⟩ := Option.isSome_iff_exists.mp himage
    have hnum : sectorNumber (requestText s) < 2560 := by
      rwa [sectorNumber_requestText (by rw [hsiz]; decide)]
    have hexec := exec_write_of_reaches ⟨hsiz, hv, hwpv, hnum, hm⟩
    rw [storeStatus_of_success hok] at hexec
    exact ⟨_, hexec, pendingText_reply _ (by simp), imageOf_congr hname⟩

/-! ## The selection gates nothing -/

/-- `s` with `x` as the selection. -/
def withSelected (x : Option Nat) (s : State) : State := { s with selected := x }

/-- The result of `f` does not depend on the selection, but for the selection itself. -/
def IgnoresSelection (f : State → State) : Prop :=
  ∀ x s, ∃ y, f (withSelected x s) = withSelected y (f s)

theorem ignoresSelection_malformed : IgnoresSelection malformed := fun x _ => ⟨x, rfl⟩

/-- A branch on what is not the selection. -/
theorem ignoresSelection_ite {p : State → Prop} [DecidablePred p] {f g : State → State}
    (hp : ∀ x s, p (withSelected x s) = p s) (hf : IgnoresSelection f) (hg : IgnoresSelection g) :
    IgnoresSelection fun s => if p s then f s else g s := by
  intro x s
  by_cases h : p s
  · simpa only [hp, if_pos h] using hf x s
  · simpa only [hp, if_neg h] using hg x s

theorem ignoresSelection_withSize {k : Nat} {f : State → State} (h : IgnoresSelection f) :
    IgnoresSelection (withSize k f) :=
  ignoresSelection_ite (fun _ _ => rfl) h ignoresSelection_malformed

/-- R211: the unit is the one that the header names, not the selected one. -/
theorem ignoresSelection_withUnit {f : Nat → State → State} (h : ∀ u, IgnoresSelection (f u)) :
    IgnoresSelection (withUnit f) := by
  intro x s
  cases hu : targetUnit s with
  | some u =>
    rw [withUnit_some hu, withUnit_some (s := withSelected x s) hu]
    exact h u x s
  | none =>
    rw [withUnit_none hu, withUnit_none (s := withSelected x s) hu]
    exact ⟨x, rfl⟩

/-! ### The disk functions -/

theorem ignoresSelection_fnReset : IgnoresSelection fnReset :=
  ignoresSelection_withSize fun _ _ => ⟨none, rfl⟩

theorem ignoresSelection_fnSelect : IgnoresSelection fnSelect :=
  ignoresSelection_withSize (ignoresSelection_withUnit fun u _ _ => ⟨some u, rfl⟩)

theorem ignoresSelection_fnRead : IgnoresSelection fnRead :=
  ignoresSelection_withSize (ignoresSelection_withUnit fun _ x _ => ⟨x, rfl⟩)

/-- `MemWrite` leaves the selection alone and never looks at it. -/
theorem memWrite_withSelected (u n : Nat) (v : List Byte) (x : Option Nat) (s : State) :
    memWrite u n v (withSelected x s) = ((memWrite u n v s).1, withSelected x (memWrite u n v s).2) := by
  have hwp : unitWp (withSelected x s) u = unitWp s u := rfl
  have himage : imageOf (withSelected x s) u = imageOf s u := rfl
  have hdraw : nextDraw (withSelected x s) = nextDraw s := rfl
  unfold memWrite
  rw [hwp, himage, hdraw]
  split
  · rfl
  · split
    · rfl
    · split
      · rfl
      · split <;> rfl

theorem ignoresSelection_fnWrite : IgnoresSelection fnWrite := by
  refine ignoresSelection_withSize (ignoresSelection_withUnit fun u x s => ⟨x, ?_⟩)
  have hmem := memWrite_withSelected u (sectorNumber (requestText s)) (sectorData (requestText s)) x s
  exact congrArg (fun r => reply [writeStatus r.1] r.2) hmem

theorem ignoresSelection_fnFlush : IgnoresSelection fnFlush :=
  ignoresSelection_withSize fun x _ => ⟨x, rfl⟩

/-! ### Image management -/

theorem ignoresSelection_fnImgDir : IgnoresSelection fnImgDir :=
  ignoresSelection_withSize fun x _ => ⟨x, rfl⟩

theorem ignoresSelection_fnImgMount : IgnoresSelection fnImgMount :=
  ignoresSelection_withSize (ignoresSelection_withUnit fun _ x _ => ⟨x, rfl⟩)

theorem ignoresSelection_createFresh (u : Nat) : IgnoresSelection (createFresh u) := by
  intro x s
  cases hfails : (nextDraw s).fails with
  | true =>
    rw [createFresh_of_failure u hfails, createFresh_of_failure (s := withSelected x s) u hfails]
    exact ⟨x, rfl⟩
  | false =>
    rw [createFresh_of_success u hfails, createFresh_of_success (s := withSelected x s) u hfails]
    exact ⟨x, rfl⟩

theorem ignoresSelection_fnImgCreate : IgnoresSelection fnImgCreate :=
  ignoresSelection_withSize (ignoresSelection_withUnit fun u =>
    ignoresSelection_ite (fun _ _ => rfl) (fun x _ => ⟨x, rfl⟩) (ignoresSelection_createFresh u))

theorem ignoresSelection_fnImgProtect : IgnoresSelection fnImgProtect :=
  ignoresSelection_withSize (ignoresSelection_withUnit fun _ x _ => ⟨x, rfl⟩)

theorem ignoresSelection_fnImgDefaults : IgnoresSelection fnImgDefaults :=
  ignoresSelection_withSize fun x _ => ⟨x, rfl⟩

/-- The sub-operation is named by the request text, which is not the selection. -/
theorem ignoresSelection_fnImg : IgnoresSelection fnImg := by
  refine ignoresSelection_ite (fun _ _ => rfl) ignoresSelection_malformed fun x s => ?_
  have hcfg : (withSelected x s).cfg = s.cfg := rfl
  have htext : requestText (withSelected x s) = requestText s := rfl
  rw [hcfg, htext]
  split
  · exact ignoresSelection_fnImgDir x s
  · exact ignoresSelection_fnImgMount x s
  · exact ignoresSelection_fnImgCreate x s
  · exact ignoresSelection_fnImgProtect x s
  · exact ignoresSelection_fnImgDefaults x s
  · exact ignoresSelection_malformed x s
  · exact ignoresSelection_malformed x s

/-- Every function and every sub-operation is carried out without a look at the selection. -/
theorem exec_ignoresSelection {i : Instr} (hi : i.level = .fnc ∨ i.level = .img) :
    ∃ f, IgnoresSelection f ∧ ∀ s, exec i s = .next (f s) := by
  cases i
  case reset => exact ⟨fnReset, ignoresSelection_fnReset, exec_reset⟩
  case select => exact ⟨fnSelect, ignoresSelection_fnSelect, exec_select⟩
  case read => exact ⟨fnRead, ignoresSelection_fnRead, exec_read⟩
  case write => exact ⟨fnWrite, ignoresSelection_fnWrite, exec_write⟩
  case flush => exact ⟨fnFlush, ignoresSelection_fnFlush, exec_flush⟩
  case img => exact ⟨fnImg, ignoresSelection_fnImg, fun _ => rfl⟩
  case imgDir => exact ⟨fnImgDir, ignoresSelection_fnImgDir, exec_imgDir⟩
  case imgMount => exact ⟨fnImgMount, ignoresSelection_fnImgMount, exec_imgMount⟩
  case imgCreate => exact ⟨fnImgCreate, ignoresSelection_fnImgCreate, exec_imgCreate⟩
  case imgProtect => exact ⟨fnImgProtect, ignoresSelection_fnImgProtect, exec_imgProtect⟩
  case imgDefaults => exact ⟨fnImgDefaults, ignoresSelection_fnImgDefaults, exec_imgDefaults⟩
  all_goals simp [Instr.level] at hi

/-- Settles O47: each function's two shared checks (`ignoresSelection_withSize`, `ignoresSelection_withUnit`) and what
it then does ignore the selection (`exec_ignoresSelection`). -/
theorem selectionGatesNothing : Obligations.SelectionGatesNothing := by
  intro i s t x hi hexec
  obtain ⟨f, hf, hmeaning⟩ := exec_ignoresSelection hi
  obtain ⟨y, hy⟩ := hf x s
  have ht : f s = t := Host.Outcome.next.inj ((hmeaning s).symm.trans hexec)
  exact ⟨y, (hmeaning _).trans (congrArg _ (hy.trans (congrArg _ ht)))⟩

end Sys2Proof.Machine
end
